-- ==== Sys2Proof/Word.lean ====
section
/-! DEFINITION. The word types of STUNCORE (00_scope.md R7, R9) and nothing else: every arithmetic helper stands in
Machine/Operands.lean. -/

namespace Sys2Proof

/-- `u8`: a MSGBUF byte. -/
abbrev Byte := BitVec 8

/-- `u16`: a STUN header field, a port. -/
abbrev Half := BitVec 16

/-- `u32`: a bus datum, a register, a hash word. -/
abbrev Word := BitVec 32

/-- A 17-bit bus byte address A[16:0] (20_memory.md R53). -/
abbrev BusAddr := BitVec 17

/-- A 50-bit bus transaction word T (30_encoding.md R84). -/
abbrev BusTxn := BitVec 50

end Sys2Proof
end

