-- ==== Sys2Proof/Syntax.lean ====
section
/-! DEFINITION. The instructions of STUNCORE: one constructor per row of spec/opcode_table.json (30_encoding.md R82, R84, R90), and
the two forms in which an instruction is written. -/

namespace Sys2Proof

/-- The twenty instructions: the eighteen commands of 30_encoding.md R90, in opcode order, and the host's two bus accesses
(40_bus_and_control.md R99, R100). `store` is CMD[8], carried only by the eight commands that allow it (R90, R92). -/
inductive Instr where
  /-- 0x00 (R111). -/
  | nop
  /-- 0x01 (R120). -/
  | sha1Init
  /-- 0x02 (R121). -/
  | sha1Update
  /-- 0x03 (R122). -/
  | sha1Final (store : Bool)
  /-- 0x04 (R123). -/
  | sha1 (store : Bool)
  /-- 0x05 (R133). -/
  | sha256Init
  /-- 0x06 (R134). -/
  | sha256Update
  /-- 0x07 (R135). -/
  | sha256Final (store : Bool)
  /-- 0x08 (R136). -/
  | sha256 (store : Bool)
  /-- 0x09 (R140). -/
  | hmacSha1 (store : Bool)
  /-- 0x0A (R141). -/
  | hmacSha256 (store : Bool)
  /-- 0x0B (R159). -/
  | crc32 (store : Bool)
  /-- 0x0C (R160). -/
  | fingerprint (store : Bool)
  /-- 0x0D (R161). -/
  | fpVerify
  /-- 0x0E (R147). -/
  | hdrEncode
  /-- 0x0F (R150). -/
  | hdrDecode
  /-- 0x10 (R154). -/
  | xaddrEncode
  /-- 0x11 (R155). -/
  | xaddrDecode
  /-- A host bus write of `data` to `addr` (R99). -/
  | busWrite (addr : BusAddr) (data : Word)
  /-- A host bus read of `addr` (R100). -/
  | busRead (addr : BusAddr)
deriving DecidableEq, Repr

/-- An instruction as it is written: a command word in format cmd32 or a transaction word in format bus50 (30_encoding.md R82). -/
inductive InstrWord where
  /-- A 32-bit word for CMD (R83). -/
  | cmd (w : Word)
  /-- A 50-bit bus transaction (R84). -/
  | bus (t : BusTxn)
deriving DecidableEq, Repr

end Sys2Proof
end

