-- ==== Sys2Proof/Decode.lean ====
section
/-! DEFINITION. Decoding (30_encoding.md R83, R84, R90-R92; 40_bus_and_control.md R108), total, an illegal command word refused by
name; then the encoder, written from the same tables. -/

namespace Sys2Proof

/-- Why a command word is illegal (30_encoding.md R91). The engine completes each with ILLEGAL_CMD (R109). -/
inductive DecodeError where
  /-- (a) CMD[31:9] is not 0. -/
  | reservedBits
  /-- (b) OPCODE >= 0x12. -/
  | unusedOpcode
  /-- (c) STORE = 1 on a row that does not allow STORE. -/
  | storeNotAllowed
deriving DecidableEq, Repr

/-- OPCODE, CMD[7:0] (R83). -/
def cmdOpcode (w : Word) : Byte := w.extractLsb' 0 8

/-- STORE, CMD[8] (R83). -/
def cmdStore (w : Word) : Bool := w.getLsbD 8

/-- RSVD, CMD[31:9] (R83). -/
def cmdReserved (w : Word) : BitVec 23 := w.extractLsb' 9 23

/-- A row of R90 whose STORE column says "no". -/
def withoutStore (store : Bool) (i : Instr) : Except DecodeError Instr :=
  if store then .error .storeNotAllowed else .ok i

/-- The command table, row by row (R90). -/
def decodeOpcode (op : Nat) (store : Bool) : Except DecodeError Instr :=
  match op with
  | 0x00 => withoutStore store .nop
  | 0x01 => withoutStore store .sha1Init
  | 0x02 => withoutStore store .sha1Update
  | 0x03 => .ok (.sha1Final store)
  | 0x04 => .ok (.sha1 store)
  | 0x05 => withoutStore store .sha256Init
  | 0x06 => withoutStore store .sha256Update
  | 0x07 => .ok (.sha256Final store)
  | 0x08 => .ok (.sha256 store)
  | 0x09 => .ok (.hmacSha1 store)
  | 0x0A => .ok (.hmacSha256 store)
  | 0x0B => .ok (.crc32 store)
  | 0x0C => .ok (.fingerprint store)
  | 0x0D => withoutStore store .fpVerify
  | 0x0E => withoutStore store .hdrEncode
  | 0x0F => withoutStore store .hdrDecode
  | 0x10 => withoutStore store .xaddrEncode
  | 0x11 => withoutStore store .xaddrDecode
  | _ => .error .unusedOpcode

/-- Decoding of a command word: total, every word to one row or to "illegal" (R92). -/
def decodeCmd (w : Word) : Except DecodeError Instr :=
  if cmdReserved w = 0 then decodeOpcode (cmdOpcode w).toNat (cmdStore w) else .error .reservedBits

/-- Decoding of a bus transaction: W in bit 49, A in bits 48..32, D in bits 31..0; D is ignored for a read (R84; opcode_table.json,
row BUS_READ; notes/assumptions/6.md). Every 50-bit word is a transaction. -/
def decodeBus (t : BusTxn) : Instr :=
  if t.getLsbD 49 then .busWrite (t.extractLsb' 32 17) (t.extractLsb' 0 32)
  else .busRead (t.extractLsb' 32 17)

/-- The decoder over both formats (R82). -/
def decode (w : InstrWord) : Except DecodeError Instr :=
  match w with
  | .cmd c => decodeCmd c
  | .bus t => .ok (decodeBus t)

/-- `legal(c)` as 40_bus_and_control.md R108 writes it, independently of the decoder. -/
def legalCommand (c : Word) : Bool :=
  c.extractLsb' 9 23 == 0 && decide ((c.extractLsb' 0 8).toNat ≤ 0x11) &&
    (!c.getLsbD 8 || [0x03, 0x04, 0x07, 0x08, 0x09, 0x0A, 0x0B, 0x0C].contains (c.extractLsb' 0 8).toNat)

/-- What the decoder reads from a row of opcode_table.json whose bits are `w`: a row of at most 32 bits is a command word, a wider
one a bus transaction, and a number that does not fit its format is no instruction (notes/assumptions/8.md). -/
def decodeTableWord (nbits w : Nat) : Option Instr :=
  if nbits ≤ 32 then
    if w < 2 ^ 32 then (decodeCmd (BitVec.ofNat 32 w)).toOption else none
  else if w < 2 ^ 50 then some (decodeBus (BitVec.ofNat 50 w)) else none

/-- A command word from its fields, `00000000000000000000000 s oooooooo` (R83). -/
def cmdWord (op : Byte) (store : Bool) : Word := (0 : BitVec 23) ++ BitVec.ofBool store ++ op

/-- A transaction word from its fields (R84). -/
def busWord (write : Bool) (a : BusAddr) (d : Word) : BusTxn := BitVec.ofBool write ++ a ++ d

/-- The encoder: the word of each instruction (R83, R84, R90). A read's data bits are 0 (R84). -/
def encode (i : Instr) : InstrWord :=
  match i with
  | .nop => .cmd (cmdWord 0x00 false)
  | .sha1Init => .cmd (cmdWord 0x01 false)
  | .sha1Update => .cmd (cmdWord 0x02 false)
  | .sha1Final store => .cmd (cmdWord 0x03 store)
  | .sha1 store => .cmd (cmdWord 0x04 store)
  | .sha256Init => .cmd (cmdWord 0x05 false)
  | .sha256Update => .cmd (cmdWord 0x06 false)
  | .sha256Final store => .cmd (cmdWord 0x07 store)
  | .sha256 store => .cmd (cmdWord 0x08 store)
  | .hmacSha1 store => .cmd (cmdWord 0x09 store)
  | .hmacSha256 store => .cmd (cmdWord 0x0A store)
  | .crc32 store => .cmd (cmdWord 0x0B store)
  | .fingerprint store => .cmd (cmdWord 0x0C store)
  | .fpVerify => .cmd (cmdWord 0x0D false)
  | .hdrEncode => .cmd (cmdWord 0x0E false)
  | .hdrDecode => .cmd (cmdWord 0x0F false)
  | .xaddrEncode => .cmd (cmdWord 0x10 false)
  | .xaddrDecode => .cmd (cmdWord 0x11 false)
  | .busWrite addr data => .bus (busWord true addr data)
  | .busRead addr => .bus (busWord false addr 0)

end Sys2Proof
end

