-- ==== Sys2Proof/Config.lean ====
section
/-! DEFINITION. What one implementation of STUNCORE fixes: the parameter MSGBUF_SIZE (00_scope.md R6) and the constants the
spec gives (R7, 10_state.md R25, R26). -/

namespace Sys2Proof

/-- The parameters of one instance (00_scope.md R6; 93_implementation_defined.md I-7). The machine's State carries it, and no step
changes it: see notes/assumptions/1.md (DESIGN CHOICE). -/
structure Config where
  /-- MSGBUF_SIZE, the number of bytes of MSGBUF. -/
  msgbufSize : Nat
deriving DecidableEq, Repr

/-- R6: a multiple of 4 with 64 <= MSGBUF_SIZE <= 65536. -/
abbrev Config.wf (c : Config) : Prop :=
  c.msgbufSize % 4 = 0 ∧ 64 ≤ c.msgbufSize ∧ c.msgbufSize ≤ 65536

/-- R6: the default size is 2048. -/
def Config.default : Config := { msgbufSize := 2048 }

/-- The value ID reads (10_state.md R25). -/
def idValue : Word := 0x53544331

/-- CAPS[21:16]: every unit is present (10_state.md R26). -/
def capsUnits : Word := 0x003F0000

/-- The STUN magic cookie (00_scope.md R7). -/
def magicCookie : Word := 0x2112A442

/-- The FINGERPRINT XOR constant (00_scope.md R7, 46_crc32.md R158). -/
def fingerprintXor : Word := 0x5354554E

/-- The longest streaming message, in bytes: 2^61 - 1 (41_sha1.md R124). -/
def maxStreamBytes : Nat := 2 ^ 61 - 1

end Sys2Proof
end

