-- ==== Sys2Proof/Machine/State.lean ====
section
/-! DEFINITION. The state of STUNCORE as plain data (10_state.md R20-R51), the reasons a step stops, and the state after power-on
reset (70_reset_and_hazards.md R183). -/

namespace Sys2Proof.Machine

/-- The error codes (60_exceptions.md R163). Every other code value is never recorded. -/
inductive ErrCode where
  | ok
  | illegalCmd
  | range
  | seq
  | tooLong
  | hdrShort
  | hdrLeadingBits
  | hdrLenAlign
  | hdrLenMismatch
  | hdrCookie
  | xaFamily
  | xaLength
  | fpShort
deriving DecidableEq, Repr

/-- The stored fields of STATUS (10_state.md R28). BUSY, SHA1_ACTIVE and SHA256_ACTIVE are mirrors with no storage (R29, R35). -/
structure Status where
  /-- STATUS[1] (R30). -/
  done : Bool
  /-- STATUS[2] (R31). -/
  err : Bool
  /-- STATUS[3] (R32). -/
  ovr : Bool
  /-- STATUS[4] (R33). -/
  hdrValid : Bool
  /-- STATUS[5] (R34). -/
  fpMatch : Bool
  /-- STATUS[15:8] (R36). -/
  errcode : ErrCode
  /-- STATUS[23:16] (R36). -/
  lastOp : Byte
deriving DecidableEq, Repr

/-- Five hash words: the chaining words of SHA-1 (R45). -/
structure Words5 where
  w0 : Word
  w1 : Word
  w2 : Word
  w3 : Word
  w4 : Word
deriving DecidableEq, Repr

/-- Eight words: the chaining words of SHA-256 (R46), and DIGEST0..DIGEST7 (R39). -/
structure Words8 where
  w0 : Word
  w1 : Word
  w2 : Word
  w3 : Word
  w4 : Word
  w5 : Word
  w6 : Word
  w7 : Word
deriving DecidableEq, Repr

/-- A streaming hash context over chaining words `σ` (R45, R46). -/
structure HashCtx (σ : Type) where
  /-- The chaining words. -/
  H : σ
  /-- The bytes absorbed but not yet compressed, 0 to 63 of them. -/
  buf : List Byte
  /-- The bytes absorbed since INIT, an integer up to 2^61 - 1. -/
  n : Nat
  /-- Whether a stream is open. -/
  valid : Bool
deriving DecidableEq, Repr

/-- `eng.state` (R49). -/
inductive EngState where
  | idle
  | busy
deriving DecidableEq, Repr

/-- The engine state (R49). `cmd` is meaningful only while BUSY (notes/assumptions/5.md). -/
structure Engine where
  state : EngState
  cmd : Word
deriving DecidableEq, Repr

/-- What the host gets back from one bus access (40_bus_and_control.md R99-R101). -/
inductive BusResponse where
  /-- A write was answered (performed, ignored or dropped). -/
  | ok
  /-- A read returned this value. -/
  | data (v : Word)
  /-- The access was refused (R101). -/
  | busErr
deriving DecidableEq, Repr

/-- A move that comes from outside the engine's own control: an input of the model (notes/assumptions/2.md, DESIGN CHOICE). -/
inductive Move where
  /-- The host issues an access of `size` bits whose direction, address and data are those of the transaction word `t`
  (20_memory.md R53, R62, R63; 30_encoding.md R84). -/
  | access (size : Nat) (t : BusTxn)
  /-- The engine gets the next step (40_bus_and_control.md R107). -/
  | engineTurn
  /-- The platform asserts its power-on reset input (70_reset_and_hazards.md R182). -/
  | powerOn
deriving DecidableEq, Repr

/-- The model's own record of the outside world: what it will do and what it has been answered. -/
structure HostPort where
  /-- The moves still to come, in order (DESIGN CHOICE, notes/assumptions/2.md). -/
  pending : List Move
  /-- The answers given, the newest first (DESIGN CHOICE, notes/assumptions/4.md). -/
  responses : List BusResponse
deriving DecidableEq, Repr

/-- MSGBUF as the list of its defined bytes, offsets strictly rising (R44). An offset that is not listed is undefined. -/
abbrev Memory := List Host.Cell

/-- The whole state (R20). -/
structure State where
  /-- The instance's parameters; no step changes them (notes/assumptions/1.md). -/
  cfg : Config
  /-- CTRL.IRQ_EN (R27). -/
  irqEn : Bool
  /-- STATUS (R28). -/
  status : Status
  /-- SRC_OFF (R38). -/
  srcOff : Word
  /-- SRC_LEN (R38). -/
  srcLen : Word
  /-- DST_OFF (R38). -/
  dstOff : Word
  /-- KEY_OFF (R38). -/
  keyOff : Word
  /-- KEY_LEN (R38). -/
  keyLen : Word
  /-- HDR_OFF (R38). -/
  hdrOff : Word
  /-- DIGEST0..DIGEST7 (R39). -/
  digest : Words8
  /-- CRC_OUT (R40). -/
  crcOut : Word
  /-- HDR_TYPE (R41). -/
  hdrType : Half
  /-- HDR_CLASS, the positioned class (R41). -/
  hdrClass : Half
  /-- HDR_METHOD, the positioned method (R41). -/
  hdrMethod : Half
  /-- HDR_LENGTH (R41). -/
  hdrLength : Half
  /-- HDR_COOKIE (R41). -/
  hdrCookie : Word
  /-- TXID0 (R42). -/
  txid0 : Word
  /-- TXID1 (R42). -/
  txid1 : Word
  /-- TXID2 (R42). -/
  txid2 : Word
  /-- XA_FAMILY (R43). -/
  xaFamily : Byte
  /-- XA_PORT (R43). -/
  xaPort : Half
  /-- XA_ADDR0 (R43). -/
  xaAddr0 : Word
  /-- XA_ADDR1 (R43). -/
  xaAddr1 : Word
  /-- XA_ADDR2 (R43). -/
  xaAddr2 : Word
  /-- XA_ADDR3 (R43). -/
  xaAddr3 : Word
  /-- XA_LEN (R43). -/
  xaLen : Byte
  /-- MSGBUF (R44). -/
  mem : Memory
  /-- The SHA-1 streaming context (R45). -/
  ctx1 : HashCtx Words5
  /-- The SHA-256 streaming context (R46). -/
  ctx2 : HashCtx Words8
  /-- The engine (R49). -/
  eng : Engine
  /-- The model's own input and output (notes/assumptions/2.md). -/
  host : HostPort
deriving DecidableEq, Repr

/-- Why the machine stops. -/
inductive Fault where
  /-- Raised by a command or by a host read that reads a MSGBUF byte nothing has written since power-on: the spec's one model fault
  (20_memory.md R73, 60_exceptions.md R173, 93_implementation_defined.md I-1). Safe: the hardware goes on with some byte value, the
  model claims nothing of the run from there. -/
  | undefinedByte
deriving DecidableEq, Repr

/-- Why an instruction has no meaning. The spec refuses none (60_exceptions.md R173). -/
inductive Refusal where
  /-- Raised only by an arm of `exec` whose instruction has no meaning yet; no arm is left so. Safe: nothing is claimed. -/
  | notModelled (mnemonic : String)
deriving DecidableEq, Repr

/-- STATUS after a reset: every field 0 (10_state.md R28). -/
def Status.reset : Status :=
  { done := false, err := false, ovr := false, hdrValid := false, fpMatch := false, errcode := .ok, lastOp := 0 }

/-- Five zero words. -/
def Words5.zero : Words5 := ⟨0, 0, 0, 0, 0⟩

/-- Eight zero words. -/
def Words8.zero : Words8 := ⟨0, 0, 0, 0, 0, 0, 0, 0⟩

/-- A context after a reset: not valid, chaining words `zero`, nothing absorbed (R45, R46). -/
def HashCtx.cleared {σ : Type} (zero : σ) : HashCtx σ := { H := zero, buf := [], n := 0, valid := false }

/-- The state after power-on reset of an instance with parameters `cfg` (70_reset_and_hazards.md R183). -/
def State.powerOnReset (cfg : Config) : State :=
  { cfg := cfg
    irqEn := false
    status := Status.reset
    srcOff := 0, srcLen := 0, dstOff := 0, keyOff := 0, keyLen := 0, hdrOff := 0
    digest := Words8.zero
    crcOut := 0
    hdrType := 0, hdrClass := 0, hdrMethod := 0, hdrLength := 0, hdrCookie := 0
    txid0 := 0, txid1 := 0, txid2 := 0
    xaFamily := 0, xaPort := 0, xaAddr0 := 0, xaAddr1 := 0, xaAddr2 := 0, xaAddr3 := 0, xaLen := 0
    mem := []
    ctx1 := HashCtx.cleared Words5.zero
    ctx2 := HashCtx.cleared Words8.zero
    eng := { state := .idle, cmd := 0 }
    host := { pending := [], responses := [] } }

/-- The machine right after reset: `clean_por` with the default size (R183, R198). -/
def State.reset : State := State.powerOnReset Config.default

end Sys2Proof.Machine
end

