-- ==== Sys2Proof/Machine/Operands.lean ====
section
/-! DEFINITION. The spec's arithmetic and byte-order primitives (00_scope.md R10, R11) and the operands every command reads
(30_encoding.md R86). Nothing is sign-extended, scaled or shifted (R86). -/

namespace Sys2Proof.Machine

/-! ## Words (R11) -/

/-- `ROTL^n(x)` for 0 < n < 32 (R11). -/
def rotl (n : Nat) (x : Word) : Word := (x <<< n) ||| (x >>> (32 - n))

/-- `ROTR^n(x)` for 0 < n < 32 (R11). -/
def rotr (n : Nat) (x : Word) : Word := (x >>> n) ||| (x <<< (32 - n))

/-- `SHR^n(x)` (R11). -/
def shr (n : Nat) (x : Word) : Word := x >>> n

/-! ## Byte sequences (R10) -/

/-- `B[i]`. Every rule reads it inside the sequence. -/
def byteAt (bs : List Byte) (i : Nat) : Byte := bs.getD i 0

/-- `B[i..j)`. -/
def slice (bs : List Byte) (i j : Nat) : List Byte := (bs.drop i).take (j - i)

/-- `be16(B)` for |B| = 2. -/
def be16 (bs : List Byte) : Half := byteAt bs 0 ++ byteAt bs 1

/-- `be32(B)` for |B| = 4. -/
def be32 (bs : List Byte) : Word := byteAt bs 0 ++ byteAt bs 1 ++ byteAt bs 2 ++ byteAt bs 3

/-- `be64(B)` for |B| = 8; no rule uses it. -/
def be64 (bs : List Byte) : BitVec 64 :=
  byteAt bs 0 ++ byteAt bs 1 ++ byteAt bs 2 ++ byteAt bs 3 ++ byteAt bs 4 ++ byteAt bs 5 ++ byteAt bs 6 ++ byteAt bs 7

/-- `bytes16(v)`, the most significant byte first. -/
def bytes16 (v : Half) : List Byte := [v.extractLsb' 8 8, v.extractLsb' 0 8]

/-- `bytes32(v)`, the most significant byte first. -/
def bytes32 (v : Word) : List Byte :=
  [v.extractLsb' 24 8, v.extractLsb' 16 8, v.extractLsb' 8 8, v.extractLsb' 0 8]

/-- `bytes64(v)`, the most significant byte first; the integer `v` is below 2^64 wherever a rule uses it (41_sha1.md R118, R124). -/
def bytes64 (v : Nat) : List Byte :=
  bytes32 (BitVec.ofNat 32 (v / 2 ^ 32)) ++ bytes32 (BitVec.ofNat 32 v)

/-- `be32(B[4k..4k+4))`: word k of a byte sequence (10_state.md R39, R42, R43). -/
def wordAt (bs : List Byte) (k : Nat) : Word := be32 (slice bs (4 * k) (4 * k + 4))

/-- `A ⊕ B` of two byte sequences of one length (45_xor_address.md R153). -/
def xorBytes (as bs : List Byte) : List Byte := List.zipWith (· ^^^ ·) as bs

/-- The bytes of five chaining words (41_sha1.md R119). -/
def bytesOfWords5 (h : Words5) : List Byte :=
  bytes32 h.w0 ++ bytes32 h.w1 ++ bytes32 h.w2 ++ bytes32 h.w3 ++ bytes32 h.w4

/-- The bytes of eight chaining words (42_sha256.md R132). -/
def bytesOfWords8 (h : Words8) : List Byte :=
  bytes32 h.w0 ++ bytes32 h.w1 ++ bytes32 h.w2 ++ bytes32 h.w3 ++
    bytes32 h.w4 ++ bytes32 h.w5 ++ bytes32 h.w6 ++ bytes32 h.w7

/-- DIGEST0..7 after a SHA-1-family command whose digest is `d`: five words, then zeros (10_state.md R39). -/
def digestRegs5 (d : List Byte) : Words8 :=
  ⟨wordAt d 0, wordAt d 1, wordAt d 2, wordAt d 3, wordAt d 4, 0, 0, 0⟩

/-- DIGEST0..7 after a SHA-256-family command whose digest is `d` (10_state.md R39). -/
def digestRegs8 (d : List Byte) : Words8 :=
  ⟨wordAt d 0, wordAt d 1, wordAt d 2, wordAt d 3, wordAt d 4, wordAt d 5, wordAt d 6, wordAt d 7⟩

/-! ## Operands (R86) -/

/-- A command operand range of unbounded integers (20_memory.md R72). -/
structure MsgRange where
  off : Nat
  len : Nat
deriving DecidableEq, Repr

/-- (SRC_OFF, SRC_LEN). -/
def srcRange (s : State) : MsgRange := ⟨s.srcOff.toNat, s.srcLen.toNat⟩

/-- (KEY_OFF, KEY_LEN). -/
def keyRange (s : State) : MsgRange := ⟨s.keyOff.toNat, s.keyLen.toNat⟩

/-- (HDR_OFF + 4, 16): the sum is of integers (45_xor_address.md R152). -/
def hdrKeyRange (s : State) : MsgRange := ⟨s.hdrOff.toNat + 4, 16⟩

/-- (DST_OFF, n) (30_encoding.md R87). -/
def dstRange (s : State) (n : Nat) : MsgRange := ⟨s.dstOff.toNat, n⟩

/-- TXID0 ‖ TXID1 ‖ TXID2 as 12 bytes. -/
def txidBytes (s : State) : List Byte := bytes32 s.txid0 ++ bytes32 s.txid1 ++ bytes32 s.txid2

/-- The IPv4 address operand: bytes32(XA_ADDR0). -/
def addr4Bytes (s : State) : List Byte := bytes32 s.xaAddr0

/-- The IPv6 address operand: bytes32(XA_ADDR0) ‖ … ‖ bytes32(XA_ADDR3). -/
def addr16Bytes (s : State) : List Byte :=
  bytes32 s.xaAddr0 ++ bytes32 s.xaAddr1 ++ bytes32 s.xaAddr2 ++ bytes32 s.xaAddr3

end Sys2Proof.Machine
end

