-- ==== Sys2Proof/Machine/Flags.lean ====
section
/-! DEFINITION. STATUS, CAPS, CTRL as words, the error codes' numbers, and the interrupt line (10_state.md R26-R36, R50, R51;
60_exceptions.md R163, R167). STUNCORE has no arithmetic condition codes (R51). -/

namespace Sys2Proof.Machine

/-- The number of each error code (60_exceptions.md R163). -/
def ErrCode.toByte (c : ErrCode) : Byte :=
  match c with
  | .ok => 0x00
  | .illegalCmd => 0x01
  | .range => 0x02
  | .seq => 0x03
  | .tooLong => 0x04
  | .hdrShort => 0x10
  | .hdrLeadingBits => 0x11
  | .hdrLenAlign => 0x12
  | .hdrLenMismatch => 0x13
  | .hdrCookie => 0x14
  | .xaFamily => 0x20
  | .xaLength => 0x21
  | .fpShort => 0x30

/-- STATUS.BUSY is 1 exactly while eng.state = BUSY (10_state.md R29). -/
def busyFlag (s : State) : Bool := s.eng.state == .busy

/-- STATUS.SHA1_ACTIVE mirrors ctx1.valid (R35). -/
def sha1Active (s : State) : Bool := s.ctx1.valid

/-- STATUS.SHA256_ACTIVE mirrors ctx2.valid (R35). -/
def sha256Active (s : State) : Bool := s.ctx2.valid

/-- The word a read of STATUS returns (R28, 40_bus_and_control.md R100). -/
def statusWord (s : State) : Word :=
  (0 : BitVec 8) ++ s.status.lastOp ++ s.status.errcode.toByte ++
    BitVec.ofBool (sha256Active s) ++ BitVec.ofBool (sha1Active s) ++
    BitVec.ofBool s.status.fpMatch ++ BitVec.ofBool s.status.hdrValid ++
    BitVec.ofBool s.status.ovr ++ BitVec.ofBool s.status.err ++
    BitVec.ofBool s.status.done ++ BitVec.ofBool (busyFlag s)

/-- The word a read of CAPS returns: (MSGBUF_SIZE / 4) | 0x003F0000 (R26, R100). -/
def capsWord (s : State) : Word := BitVec.ofNat 32 (s.cfg.msgbufSize / 4) ||| capsUnits

/-- The word a read of CTRL returns: IRQ_EN in bit 0, SOFT_RESET and the reserved bits 0 (R27). -/
def ctrlWord (s : State) : Word := (0 : BitVec 31) ++ BitVec.ofBool s.irqEn

/-- The interrupt output, a level: irq = IRQ_EN & (DONE | OVR) (R50, 60_exceptions.md R167). -/
def irq (s : State) : Bool := s.irqEn && (s.status.done || s.status.ovr)

/-- A STATUS write clears each W1C bit written as 1 and ignores every other bit (40_bus_and_control.md R104). -/
def statusWrite (s : State) (d : Word) : State :=
  { s with status := { s.status with
      done := s.status.done && !d.getLsbD 1
      err := s.status.err && !d.getLsbD 2
      ovr := s.status.ovr && !d.getLsbD 3 } }

/-- STATUS.OVR <- 1 (10_state.md R32, 60_exceptions.md R168). -/
def setOvr (s : State) : State := { s with status := { s.status with ovr := true } }

end Sys2Proof.Machine
end

