-- ==== Sys2Proof/Machine/Ops.lean ====
section
/-! DEFINITION. The operations every meaning is written over: MSGBUF (20_memory.md), what an EXEC rule answers
(40_bus_and_control.md R109), the completion that records it (R113), the generic STORE write (R112), and the two resets
(70_reset_and_hazards.md R182-R184). STUNCORE takes no exception and returns from none (60_exceptions.md R170, R171): the completion
with an error code, `finish`, stands in that place. -/

namespace Sys2Proof.Machine

/-! ## MSGBUF -/

/-- One byte, or nothing where it is undefined (10_state.md R44). -/
def Memory.read (m : Memory) (a : Nat) : Option Byte :=
  match m with
  | [] => none
  | (k, b) :: rest => if k = a then some b else Memory.read rest a

/-- The byte at `a` becomes `b` and defined (R44); the list stays in its canonical form. -/
def Memory.write (m : Memory) (a : Nat) (b : Byte) : Memory :=
  match m with
  | [] => [(a, b)]
  | (k, v) :: rest =>
    if a < k then (a, b) :: (k, v) :: rest
    else if a = k then (a, b) :: rest
    else (k, v) :: Memory.write rest a b

/-- `MemRead(off, n)` (00_scope.md R12): nothing where any byte is undefined (20_memory.md R73). -/
def Memory.readBytes (m : Memory) (off : Nat) (n : Nat) : Option (List Byte) :=
  match n with
  | 0 => some []
  | n + 1 =>
    match Memory.read m off, Memory.readBytes m (off + 1) n with
    | some b, some bs => some (b :: bs)
    | _, _ => none

/-- `MemWrite(off, |bs|, bs)` (00_scope.md R12). -/
def Memory.writeBytes (m : Memory) (off : Nat) (bs : List Byte) : Memory :=
  match bs with
  | [] => m
  | b :: rest => Memory.writeBytes (Memory.write m off b) (off + 1) rest

/-- Offsets strictly rising, none below `lo`. -/
def Memory.risingFrom (lo : Nat) (m : Memory) : Bool :=
  match m with
  | [] => true
  | (k, _) :: rest => decide (lo ≤ k) && Memory.risingFrom (k + 1) rest

/-- The canonical form: offsets strictly rising. (No listed byte can equal what an unlisted offset reads as, since that is no
value at all.) -/
def Memory.wf (m : Memory) : Bool := Memory.risingFrom 0 m

/-- Every listed offset is below `n`: MSGBUF has the offsets 0..MSGBUF_SIZE-1 only (R44). -/
def Memory.below (n : Nat) (m : Memory) : Bool := m.all (fun c => decide (c.1 < n))

/-- A range is in range iff off + len <= MSGBUF_SIZE, in integers (20_memory.md R72). -/
def inRange (s : State) (r : MsgRange) : Bool := decide (r.off + r.len ≤ s.cfg.msgbufSize)

/-- The bytes of a range. -/
def memRead (s : State) (r : MsgRange) : Option (List Byte) := Memory.readBytes s.mem r.off r.len

/-- MemWrite into the state. -/
def memWrite (s : State) (off : Nat) (bs : List Byte) : State := { s with mem := Memory.writeBytes s.mem off bs }

/-! ## What an EXEC rule answers -/

/-- (code, effects) of R109: `ok s'` is code OK with `s'` the state after the effects, a success's status effects among them;
`error` is another code, whose effects are none (60_exceptions.md R165); `fault` is the model fault of 20_memory.md R73. -/
inductive ExecResult where
  | ok (s' : State)
  | error (code : ErrCode)
  | fault (f : Fault)
deriving DecidableEq, Repr

/-- `if not cond: return (code, {}, _)`; a check that passes goes on with `k` (40_bus_and_control.md R110). -/
def require (cond : Bool) (code : ErrCode) (k : ExecResult) : ExecResult := if cond then k else .error code

/-- The range check of 20_memory.md R72. -/
def requireRange (s : State) (r : MsgRange) (k : ExecResult) : ExecResult := require (inRange s r) .range k

/-- STORE's range check, made after the other ranges (R72, 30_encoding.md R87). -/
def requireStore (store : Bool) (s : State) (n : Nat) (k : ExecResult) : ExecResult :=
  if store then requireRange s (dstRange s n) k else k

/-- A MemRead inside a rule: an undefined byte is the model fault (R73). -/
def withBytes (bytes : Option (List Byte)) (k : List Byte → ExecResult) : ExecResult :=
  match bytes with
  | some bs => k bs
  | none => .fault .undefinedByte

/-- The generic STORE write: with STORE = 1 the result bytes land at DST_OFF, after every read (40_bus_and_control.md R112). -/
def storeResult (store : Bool) (bs : List Byte) (s : State) : State :=
  if store then memWrite s s.dstOff.toNat bs else s

/-! ## Completion -/

/-- The common part of every completion: DONE, ERR if the code is not OK, ERRCODE, LAST_OP, and the engine IDLE
(40_bus_and_control.md R113, 60_exceptions.md R164). `eng.cmd` is not written (notes/assumptions/5.md). -/
def complete (op : Byte) (code : ErrCode) (s : State) : State :=
  { s with
    status := { s.status with
      done := true
      err := s.status.err || decide (code ≠ .ok)
      errcode := code
      lastOp := op }
    eng := { s.eng with state := .idle } }

/-- The completion of a command of opcode `op` whose EXEC rule answered `r` at `s`: on code OK the effects, on another code only the
failure's status effect `onFail`, then the common part (R109, R113). A success's own status effects stand in `r`. -/
def finishWith (op : Byte) (onFail : Status → Status) (s : State) (r : ExecResult) : Host.Outcome State Fault Refusal :=
  match r with
  | .ok s' => .next (complete op .ok s')
  | .error code => .next (complete op code { s with status := onFail s.status })
  | .fault f => .fault f

/-- The completion of a command that has no status effects. -/
def finish (op : Byte) (s : State) (r : ExecResult) : Host.Outcome State Fault Refusal := finishWith op id s r

/-! ## Host answers and resets -/

/-- The host gets an answer. -/
def respond (s : State) (r : BusResponse) : State :=
  { s with host := { s.host with responses := r :: s.host.responses } }

/-- The soft reset: the power-on values for everything but MSGBUF; a command in flight is abandoned with no effect
(40_bus_and_control.md R105, 70_reset_and_hazards.md R184). The model's own fields stay (notes/assumptions/12.md). -/
def softReset (s : State) : State := { State.powerOnReset s.cfg with mem := s.mem, host := s.host }

/-- The power-on reset input: every piece of state takes its value of R183, MSGBUF undefined. The model's own fields stay
(notes/assumptions/11.md). -/
def powerOnInput (s : State) : State := { State.powerOnReset s.cfg with host := s.host }

end Sys2Proof.Machine
end

