-- ==== Sys2Proof/Machine/Bus.lean ====
section
/-! DEFINITION. The register map (10_state.md R23, R24), the bus decode (30_encoding.md R85), the host's two accesses
(40_bus_and_control.md R99-R106) and NOP (R111). -/

namespace Sys2Proof.Machine

/-! ## The register map -/

/-- The registers of 10_state.md R24. -/
inductive Reg where
  | id
  | caps
  | ctrl
  | status
  | cmd
  | srcOff
  | srcLen
  | dstOff
  | keyOff
  | keyLen
  | hdrOff
  | digest0
  | digest1
  | digest2
  | digest3
  | digest4
  | digest5
  | digest6
  | digest7
  | crcOut
  | hdrType
  | hdrClass
  | hdrMethod
  | hdrLength
  | hdrCookie
  | txid0
  | txid1
  | txid2
  | xaFamily
  | xaPort
  | xaAddr0
  | xaAddr1
  | xaAddr2
  | xaAddr3
  | xaLen
deriving DecidableEq, Repr

/-- The access column of R24: CTRL is RW, STATUS mixed, CMD write-only. -/
inductive RegAccess where
  | ro
  | rw
  | mixed
  | wo
deriving DecidableEq, Repr

/-- One row of R24. -/
structure RegRow where
  offset : BitVec 12
  reg : Reg
  access : RegAccess
deriving DecidableEq, Repr

/-- The table of R24. -/
def regTable : List RegRow :=
  [⟨0x000, .id, .ro⟩, ⟨0x004, .caps, .ro⟩, ⟨0x008, .ctrl, .rw⟩, ⟨0x00C, .status, .mixed⟩, ⟨0x010, .cmd, .wo⟩,
   ⟨0x014, .srcOff, .rw⟩, ⟨0x018, .srcLen, .rw⟩, ⟨0x01C, .dstOff, .rw⟩, ⟨0x020, .keyOff, .rw⟩, ⟨0x024, .keyLen, .rw⟩,
   ⟨0x028, .hdrOff, .rw⟩,
   ⟨0x040, .digest0, .ro⟩, ⟨0x044, .digest1, .ro⟩, ⟨0x048, .digest2, .ro⟩, ⟨0x04C, .digest3, .ro⟩,
   ⟨0x050, .digest4, .ro⟩, ⟨0x054, .digest5, .ro⟩, ⟨0x058, .digest6, .ro⟩, ⟨0x05C, .digest7, .ro⟩,
   ⟨0x060, .crcOut, .ro⟩,
   ⟨0x080, .hdrType, .ro⟩, ⟨0x084, .hdrClass, .rw⟩, ⟨0x088, .hdrMethod, .rw⟩, ⟨0x08C, .hdrLength, .rw⟩,
   ⟨0x090, .hdrCookie, .ro⟩,
   ⟨0x094, .txid0, .rw⟩, ⟨0x098, .txid1, .rw⟩, ⟨0x09C, .txid2, .rw⟩,
   ⟨0x0A0, .xaFamily, .rw⟩, ⟨0x0A4, .xaPort, .rw⟩,
   ⟨0x0A8, .xaAddr0, .rw⟩, ⟨0x0AC, .xaAddr1, .rw⟩, ⟨0x0B0, .xaAddr2, .rw⟩, ⟨0x0B4, .xaAddr3, .rw⟩,
   ⟨0x0B8, .xaLen, .ro⟩]

/-- The row at an offset of the register window; nothing where the offset is unmapped (R24, 20_memory.md R54). -/
def regRowAt (off : BitVec 12) : Option RegRow := regTable.find? (fun r => r.offset == off)

/-! ## Bus decode -/

/-- Where a bus address leads. -/
inductive BusTarget where
  /-- The MSGBUF word i, bytes 4i..4i+3 (20_memory.md R56). -/
  | msgWord (i : Nat)
  /-- A register. -/
  | reg (row : RegRow)
  /-- A[1:0] is not 0: a bus error whatever the rest is (30_encoding.md R85, 20_memory.md R63). -/
  | misaligned
  /-- Nothing is there (20_memory.md R71). -/
  | unmapped
deriving DecidableEq, Repr

/-- The decode of A[16:0] (30_encoding.md R85). -/
def busTarget (s : State) (a : BusAddr) : BusTarget :=
  if a.extractLsb' 0 2 ≠ 0 then .misaligned
  else if a.getLsbD 16 then
    (if 4 * (a.extractLsb' 2 14).toNat < s.cfg.msgbufSize then .msgWord (a.extractLsb' 2 14).toNat else .unmapped)
  else if a.extractLsb' 12 4 = 0 then
    (match regRowAt (a.extractLsb' 0 12) with
      | some row => .reg row
      | none => .unmapped)
  else .unmapped

/-- `dropped_when_busy(A)` on what the address decodes to: CMD, every RW register but CTRL, every mapped MSGBUF word
(40_bus_and_control.md R102). -/
def droppedWhenBusy (t : BusTarget) : Bool :=
  match t with
  | .msgWord _ => true
  | .reg row => row.access == .wo || (row.access == .rw && row.reg != .ctrl)
  | .misaligned => false
  | .unmapped => false

/-! ## Register reads and writes -/

/-- The value a read of a register returns, fields zero-extended (10_state.md R23(d), 40_bus_and_control.md R100). -/
def readReg (s : State) (r : Reg) : Word :=
  match r with
  | .id => idValue
  | .caps => capsWord s
  | .ctrl => ctrlWord s
  | .status => statusWord s
  | .cmd => 0
  | .srcOff => s.srcOff
  | .srcLen => s.srcLen
  | .dstOff => s.dstOff
  | .keyOff => s.keyOff
  | .keyLen => s.keyLen
  | .hdrOff => s.hdrOff
  | .digest0 => s.digest.w0
  | .digest1 => s.digest.w1
  | .digest2 => s.digest.w2
  | .digest3 => s.digest.w3
  | .digest4 => s.digest.w4
  | .digest5 => s.digest.w5
  | .digest6 => s.digest.w6
  | .digest7 => s.digest.w7
  | .crcOut => s.crcOut
  | .hdrType => s.hdrType.setWidth 32
  | .hdrClass => s.hdrClass.setWidth 32
  | .hdrMethod => s.hdrMethod.setWidth 32
  | .hdrLength => s.hdrLength.setWidth 32
  | .hdrCookie => s.hdrCookie
  | .txid0 => s.txid0
  | .txid1 => s.txid1
  | .txid2 => s.txid2
  | .xaFamily => s.xaFamily.setWidth 32
  | .xaPort => s.xaPort.setWidth 32
  | .xaAddr0 => s.xaAddr0
  | .xaAddr1 => s.xaAddr1
  | .xaAddr2 => s.xaAddr2
  | .xaAddr3 => s.xaAddr3
  | .xaLen => s.xaLen.setWidth 32

/-- A CTRL write: SOFT_RESET first, else IRQ_EN <- D[0] (40_bus_and_control.md R103). -/
def ctrlWrite (s : State) (d : Word) : State :=
  if d.getLsbD 1 then softReset s else { s with irqEn := d.getLsbD 0 }

/-- Command acceptance: eng.cmd <- D, eng.state <- BUSY, nothing else; D is not checked (40_bus_and_control.md R106). -/
def acceptCommand (s : State) (d : Word) : State := { s with eng := { state := .busy, cmd := d } }

/-- A bus write that is not dropped, to a register: the bits above a field are dropped, an RO register keeps its value
(10_state.md R23, 40_bus_and_control.md R99). -/
def writeReg (s : State) (r : Reg) (d : Word) : State :=
  match r with
  | .id => s
  | .caps => s
  | .ctrl => ctrlWrite s d
  | .status => statusWrite s d
  | .cmd => acceptCommand s d
  | .srcOff => { s with srcOff := d }
  | .srcLen => { s with srcLen := d }
  | .dstOff => { s with dstOff := d }
  | .keyOff => { s with keyOff := d }
  | .keyLen => { s with keyLen := d }
  | .hdrOff => { s with hdrOff := d }
  | .digest0 => s
  | .digest1 => s
  | .digest2 => s
  | .digest3 => s
  | .digest4 => s
  | .digest5 => s
  | .digest6 => s
  | .digest7 => s
  | .crcOut => s
  | .hdrType => s
  | .hdrClass => { s with hdrClass := d.setWidth 16 }
  | .hdrMethod => { s with hdrMethod := d.setWidth 16 }
  | .hdrLength => { s with hdrLength := d.setWidth 16 }
  | .hdrCookie => s
  | .txid0 => { s with txid0 := d }
  | .txid1 => { s with txid1 := d }
  | .txid2 => { s with txid2 := d }
  | .xaFamily => { s with xaFamily := d.setWidth 8 }
  | .xaPort => { s with xaPort := d.setWidth 16 }
  | .xaAddr0 => { s with xaAddr0 := d }
  | .xaAddr1 => { s with xaAddr1 := d }
  | .xaAddr2 => { s with xaAddr2 := d }
  | .xaAddr3 => { s with xaAddr3 := d }
  | .xaLen => s

/-! ## The host's accesses -/

/-- The effect of a write at a mapped target while it is not dropped (40_bus_and_control.md R99). -/
def performWrite (s : State) (t : BusTarget) (d : Word) : State :=
  match t with
  | .msgWord i => memWrite s (4 * i) (bytes32 d)
  | .reg row => writeReg s row.reg d
  | .misaligned => s
  | .unmapped => s

/-- A target the bus answers with a bus error (20_memory.md R63, R71). -/
def refusedTarget (t : BusTarget) : Bool :=
  match t with
  | .msgWord _ => false
  | .reg _ => false
  | .misaligned => true
  | .unmapped => true

/-- `bus_write(A, D)` (40_bus_and_control.md R99). -/
def execBusWrite (addr : BusAddr) (data : Word) (s : State) : Host.Outcome State Fault Refusal :=
  let t := busTarget s addr
  if refusedTarget t then .next (respond s .busErr)
  else if busyFlag s && droppedWhenBusy t then .next (respond (setOvr s) .ok)
  else .next (respond (performWrite s t data) .ok)

/-- `bus_read(A)` (40_bus_and_control.md R100): no side effect; an undefined MSGBUF byte is the model fault (20_memory.md R73). -/
def execBusRead (addr : BusAddr) (s : State) : Host.Outcome State Fault Refusal :=
  match busTarget s addr with
  | .msgWord i =>
    match memRead s ⟨4 * i, 4⟩ with
    | some bs => .next (respond s (.data (be32 bs)))
    | none => .fault .undefinedByte
  | .reg row => .next (respond s (.data (readReg s row.reg)))
  | .misaligned => .next (respond s .busErr)
  | .unmapped => .next (respond s .busErr)

/-- NOP: EXEC[0x00]() = (OK, {}, {}) (40_bus_and_control.md R111). -/
def execNop (s : State) : Host.Outcome State Fault Refusal := finish 0x00 s (.ok s)

end Sys2Proof.Machine
end

