-- ==== Sys2Proof/Machine/Crc.lean ====
section
/-! DEFINITION. CRC32, FINGERPRINT and FP_VERIFY (46_crc32.md R157-R161). -/

namespace Sys2Proof.Machine

/-- One bit of the reflected CRC (R157). -/
def crcBit (c : Word) : Word := if c.getLsbD 0 then (c >>> 1) ^^^ 0xEDB88320 else c >>> 1

/-- `k` bits of the reflected CRC. -/
def crcBits (k : Nat) (c : Word) : Word :=
  match k with
  | 0 => c
  | k + 1 => crcBits k (crcBit c)

/-- One byte of the CRC: the byte is XORed in, then eight bits (R157). -/
def crcByte (c : Word) (x : Byte) : Word := crcBits 8 (c ^^^ x.setWidth 32)

/-- `crc32(M)` (R157). -/
def crc32 (m : List Byte) : Word := m.foldl crcByte 0xFFFFFFFF ^^^ 0xFFFFFFFF

/-- `fp(M) = crc32(M) ^ 0x5354554E` (R158). -/
def fingerprintValue (m : List Byte) : Word := crc32 m ^^^ fingerprintXor

/-- The FINGERPRINT attribute's type and length, 80 28 00 04 (R161, 30_encoding.md R98). -/
def fingerprintTL : List Byte := [0x80, 0x28, 0x00, 0x04]

/-- EXEC[0x0B] (R159). -/
def crc32Rule (store : Bool) (s : State) : ExecResult :=
  requireRange s (srcRange s) <|
  requireStore store s 4 <|
  withBytes (memRead s (srcRange s)) fun m =>
  .ok (storeResult store (bytes32 (crc32 m)) { s with crcOut := crc32 m })

/-- EXEC[0x0C] (R160). -/
def fingerprintRule (store : Bool) (s : State) : ExecResult :=
  requireRange s (srcRange s) <|
  requireStore store s 4 <|
  withBytes (memRead s (srcRange s)) fun m =>
  .ok (storeResult store (bytes32 (fingerprintValue m)) { s with crcOut := fingerprintValue m })

/-- v of R161: the FINGERPRINT recomputed over the message without its last 8 bytes. -/
def fpRecomputed (m : List Byte) : Word := fingerprintValue (slice m 0 (m.length - 8))

/-- ok of R161: the last 8 bytes are a FINGERPRINT attribute whose value is the recomputed one. -/
def fpMatches (m : List Byte) : Bool :=
  slice m (m.length - 8) (m.length - 4) == fingerprintTL && be32 (slice m (m.length - 4) m.length) == fpRecomputed m

/-- FP_MATCH <- b, the status effect of FP_VERIFY (R161, 10_state.md R34). -/
def setFpMatch (b : Bool) (st : Status) : Status := { st with fpMatch := b }

/-- EXEC[0x0D] (R161). -/
def fpVerifyRule (s : State) : ExecResult :=
  requireRange s (srcRange s) <|
  require (decide (8 ≤ s.srcLen.toNat)) .fpShort <|
  withBytes (memRead s (srcRange s)) fun m =>
  .ok { s with crcOut := fpRecomputed m, status := setFpMatch (fpMatches m) s.status }

/-- CRC32 (R159). -/
def execCrc32 (store : Bool) (s : State) : Host.Outcome State Fault Refusal := finish 0x0B s (crc32Rule store s)

/-- FINGERPRINT (R160). -/
def execFingerprint (store : Bool) (s : State) : Host.Outcome State Fault Refusal := finish 0x0C s (fingerprintRule store s)

/-- FP_VERIFY (R161): every failure of the rule sets FP_MATCH <- 0. -/
def execFpVerify (s : State) : Host.Outcome State Fault Refusal := finishWith 0x0D (setFpMatch false) s (fpVerifyRule s)

end Sys2Proof.Machine
end

