-- ==== Sys2Proof/Machine/Header.lean ====
section
/-! DEFINITION. The STUN header codec: the message-type bit fields, the 20-byte header, HDR_ENCODE and HDR_DECODE
(44_stun_header.md R143-R150; 30_encoding.md R96). -/

namespace Sys2Proof.Machine

/-! ## Message-type bit fields -/

/-- `class = type & 0x0110`, left in place (R143, R148). -/
def positionedClass (type : Half) : Half := type &&& 0x0110

/-- `method = type & 0x3EEF`, left in place (R143, R148). -/
def positionedMethod (type : Half) : Half := type &&& 0x3EEF

/-- `type = 0x3FFF & (class | method)` (R146). -/
def messageType (cls method : Half) : Half := 0x3FFF &&& (cls ||| method)

/-- `positioned_method(m)` of R144; no command uses it. -/
def methodOfCompact (m : BitVec 12) : Half :=
  let v : Half := m.setWidth 16
  (v &&& 0x000F) ||| ((v &&& 0x0070) <<< 1) ||| ((v &&& 0x0F80) <<< 2)

/-- `compact_method(M)` of R144; no command uses it. -/
def compactOfMethod (p : Half) : BitVec 12 :=
  ((p &&& 0x000F) ||| ((p &&& 0x00E0) >>> 1) ||| ((p &&& 0x3E00) >>> 2)).setWidth 12

/-- `positioned_class(c)` of R144; no command uses it. -/
def classOfCompact (c : BitVec 2) : Half :=
  let v : Half := c.setWidth 16
  ((v &&& 1) <<< 4) ||| ((v &&& 2) <<< 7)

/-- `compact_class(C)` of R144; no command uses it. -/
def compactOfClass (p : Half) : BitVec 2 := (((p >>> 4) &&& 1) ||| ((p >>> 7) &&& 2)).setWidth 2

/-- The four class names (R145). The hardware never uses them. -/
inductive ClassName where
  | request
  | indication
  | success
  | error
deriving DecidableEq, Repr

/-- The positioned class of each name (R145). -/
def ClassName.positioned (c : ClassName) : Half :=
  match c with
  | .request => 0x0000
  | .indication => 0x0010
  | .success => 0x0100
  | .error => 0x0110

/-! ## The 20-byte header -/

/-- The header bytes HDR_ENCODE writes (R147, 30_encoding.md R96). -/
def headerBytes (s : State) : List Byte :=
  bytes16 (messageType s.hdrClass s.hdrMethod) ++ bytes16 s.hdrLength ++ bytes32 magicCookie ++ txidBytes s

/-- type = be16(h[0..2)) (R148). -/
def headerType (h : List Byte) : Half := be16 (slice h 0 2)

/-- length = be16(h[2..4)) (R148). -/
def headerLength (h : List Byte) : Half := be16 (slice h 2 4)

/-- cookie = be32(h[4..8)) (R148). -/
def headerCookie (h : List Byte) : Word := be32 (slice h 4 8)

/-- txid = h[8..20) (R148). -/
def headerTxid (h : List Byte) : List Byte := slice h 8 20

/-! ## Commands -/

/-- EXEC[0x0E] (R147): no value is checked; the MSGBUF write always happens. -/
def hdrEncodeRule (s : State) : ExecResult :=
  requireRange s (dstRange s 20) <|
  .ok (memWrite { s with hdrType := messageType s.hdrClass s.hdrMethod } s.dstOff.toNat (headerBytes s))

/-- The header bytes HDR_DECODE reads: 20 at SRC_OFF (R150). -/
def hdrSourceRange (s : State) : MsgRange := ⟨s.srcOff.toNat, 20⟩

/-- The registers a successful HDR_DECODE writes (R150). -/
def decodedHeader (s : State) (h : List Byte) : State :=
  { s with
    hdrType := headerType h
    hdrClass := positionedClass (headerType h)
    hdrMethod := positionedMethod (headerType h)
    hdrLength := headerLength h
    hdrCookie := headerCookie h
    txid0 := wordAt (headerTxid h) 0
    txid1 := wordAt (headerTxid h) 1
    txid2 := wordAt (headerTxid h) 2 }

/-- HDR_VALID <- b, the status effect of HDR_DECODE (R150, 10_state.md R33). -/
def setHdrValid (b : Bool) (st : Status) : Status := { st with hdrValid := b }

/-- EXEC[0x0F] (R149, R150): the checks in the validation order. -/
def hdrDecodeRule (s : State) : ExecResult :=
  requireRange s (srcRange s) <|
  require (decide (20 ≤ s.srcLen.toNat)) .hdrShort <|
  withBytes (memRead s (hdrSourceRange s)) fun h =>
  require ((headerType h).extractLsb' 14 2 == 0) .hdrLeadingBits <|
  require (decide ((headerLength h).toNat % 4 = 0)) .hdrLenAlign <|
  require (decide (20 + (headerLength h).toNat = s.srcLen.toNat)) .hdrLenMismatch <|
  require (headerCookie h == magicCookie) .hdrCookie <|
  .ok { decodedHeader s h with status := setHdrValid true s.status }

/-- HDR_ENCODE (R147). -/
def execHdrEncode (s : State) : Host.Outcome State Fault Refusal := finish 0x0E s (hdrEncodeRule s)

/-- HDR_DECODE (R150): every failure of the rule sets HDR_VALID <- 0. -/
def execHdrDecode (s : State) : Host.Outcome State Fault Refusal := finishWith 0x0F (setHdrValid false) s (hdrDecodeRule s)

end Sys2Proof.Machine
end

