-- ==== Sys2Proof/Machine/Hash.lean ====
section
/-! DEFINITION. What the two hash units share: absorbing, padding and the 64-byte block loop, over any compression function
(41_sha1.md R118; 42_sha256.md R131 says the same of SHA-256). -/

namespace Sys2Proof.Machine

/-- One byte of `absorb`: the buffer grows, and a buffer of 64 bytes is compressed at once (R118). -/
def absorbByte {σ : Type} (compress : σ → List Byte → σ) (c : HashCtx σ) (x : Byte) : HashCtx σ :=
  if (c.buf ++ [x]).length = 64 then { c with H := compress c.H (c.buf ++ [x]), buf := [] }
  else { c with buf := c.buf ++ [x] }

/-- `absorb(ctx, M)` (R118). -/
def absorb {σ : Type} (compress : σ → List Byte → σ) (c : HashCtx σ) (m : List Byte) : HashCtx σ :=
  let c' := m.foldl (absorbByte compress) c
  { c' with n := c.n + m.length }

/-- The number of zero bytes of the padding: k = (55 - |buf|) mod 64, for |buf| <= 63 (R118). -/
def padZeros (bufLen : Nat) : Nat := (119 - bufLen) % 64

/-- P = buf ‖ 0x80 ‖ 0x00^k ‖ bytes64(8 * n) (R118). -/
def padded (buf : List Byte) (n : Nat) : List Byte :=
  buf ++ [0x80] ++ List.replicate (padZeros buf.length) 0 ++ bytes64 (8 * n)

/-- The chaining words after the first `k` 64-byte blocks of `p`, in order (R118). -/
def compressBlocks {σ : Type} (compress : σ → List Byte → σ) (h : σ) (p : List Byte) (k : Nat) : σ :=
  match k with
  | 0 => h
  | k + 1 => compressBlocks compress (compress h (p.take 64)) (p.drop 64) k

/-- `finalize(H, buf, n)`: the chaining words after the padded blocks (R118). -/
def finalizeHash {σ : Type} (compress : σ → List Byte → σ) (h : σ) (buf : List Byte) (n : Nat) : σ :=
  compressBlocks compress h (padded buf n) ((padded buf n).length / 64)

/-- A fresh context over the initial hash value `iv` (R119, R120). -/
def freshCtx {σ : Type} (iv : σ) : HashCtx σ := { H := iv, buf := [], n := 0, valid := true }

/-- The chaining words of the one-shot hash: a fresh context, absorb, finalize (R119). -/
def hashWords {σ : Type} (compress : σ → List Byte → σ) (iv : σ) (m : List Byte) : σ :=
  let c := absorb compress (freshCtx iv) m
  finalizeHash compress c.H c.buf c.n

/-- The sixteen big-endian words of a 64-byte block: the pipeline as it is loaded (R116, 42_sha256.md R129). -/
def loadPipeline (block : List Byte) : List Word := (List.range 16).map (wordAt block)

/-- The pipeline after a round: every word moves down one place and `entering` comes in at w[15] (R116, R129). -/
def shiftPipeline (w : List Word) (entering : Word) : List Word := w.drop 1 ++ [entering]

/-- `w[j]` of a pipeline. -/
def pipeWord (w : List Word) (j : Nat) : Word := w.getD j 0

end Sys2Proof.Machine
end

