-- ==== Sys2Proof/Machine/Sha1.lean ====
section
/-! DEFINITION. The SHA-1 core: the algorithm of 41_sha1.md R114-R119 in its message-schedule pipeline form, and the commands
SHA1_INIT, SHA1_UPDATE, SHA1_FINAL and SHA1 (R120-R123). -/

namespace Sys2Proof.Machine

/-! ## Algorithm -/

/-- IV1 (R114). -/
def sha1IV : Words5 := ⟨0x67452301, 0xEFCDAB89, 0x98BADCFE, 0x10325476, 0xC3D2E1F0⟩

/-- The round constant K_t (R114). -/
def sha1K (t : Nat) : Word :=
  if t < 20 then 0x5A827999 else if t < 40 then 0x6ED9EBA1 else if t < 60 then 0x8F1BBCDC else 0xCA62C1D6

/-- The round function f_t(b, c, d): Ch, Parity, Maj, Parity (R115). -/
def sha1F (t : Nat) (b c d : Word) : Word :=
  if t < 20 then (b &&& c) ^^^ (~~~b &&& d)
  else if t < 40 then b ^^^ c ^^^ d
  else if t < 60 then (b &&& c) ^^^ (b &&& d) ^^^ (c &&& d)
  else b ^^^ c ^^^ d

/-- The working state, which exists only while one block is compressed (10_state.md R47). -/
structure Sha1Work where
  a : Word
  b : Word
  c : Word
  d : Word
  e : Word
  /-- The pipeline w[0..15]. -/
  w : List Word
  /-- The round counter (10_state.md R22). -/
  t : Nat
deriving DecidableEq, Repr

/-- The pipeline loaded and the working variables set, before round 0 (R116). -/
def sha1Start (h : Words5) (block : List Byte) : Sha1Work :=
  { a := h.w0, b := h.w1, c := h.w2, d := h.w3, e := h.w4, w := loadPipeline block, t := 0 }

/-- Round t (R116): every right-hand side reads the old values (00_scope.md R13). -/
def sha1Round (x : Sha1Work) : Sha1Work :=
  { a := rotl 5 x.a + sha1F x.t x.b x.c x.d + x.e + sha1K x.t + pipeWord x.w 0
    b := x.a
    c := rotl 30 x.b
    d := x.c
    e := x.d
    w := shiftPipeline x.w
      (rotl 1 (pipeWord x.w 13 ^^^ pipeWord x.w 8 ^^^ pipeWord x.w 2 ^^^ pipeWord x.w 0))
    t := x.t + 1 }

/-- The working state after `k` rounds. -/
def sha1Rounds (k : Nat) (x : Sha1Work) : Sha1Work :=
  match k with
  | 0 => x
  | k + 1 => sha1Round (sha1Rounds k x)

/-- The sums that end a compression (R116). -/
def sha1Sum (h : Words5) (x : Sha1Work) : Words5 :=
  ⟨h.w0 + x.a, h.w1 + x.b, h.w2 + x.c, h.w3 + x.d, h.w4 + x.e⟩

/-- `compress1` (R116): 80 rounds; how many the hardware takes per clock cannot be observed (R125). -/
def compress1 (h : Words5) (block : List Byte) : Words5 := sha1Sum h (sha1Rounds 80 (sha1Start h block))

/-- `SHA1(M)`, the 20-byte digest (R119). -/
def sha1Digest (m : List Byte) : List Byte := bytesOfWords5 (hashWords compress1 sha1IV m)

/-! ## Commands -/

/-- EXEC[0x01] (R120). -/
def sha1InitRule (s : State) : ExecResult := .ok { s with ctx1 := freshCtx sha1IV }

/-- EXEC[0x02] (R121). -/
def sha1UpdateRule (s : State) : ExecResult :=
  requireRange s (srcRange s) <|
  require s.ctx1.valid .seq <|
  require (decide (s.ctx1.n + s.srcLen.toNat ≤ maxStreamBytes)) .tooLong <|
  withBytes (memRead s (srcRange s)) fun m =>
  .ok { s with ctx1 := absorb compress1 s.ctx1 m }

/-- H' of R122: the chaining words of the padded stream. -/
def sha1StreamWords (s : State) : Words5 := finalizeHash compress1 s.ctx1.H s.ctx1.buf s.ctx1.n

/-- EXEC[0x03] (R122). -/
def sha1FinalRule (store : Bool) (s : State) : ExecResult :=
  requireStore store s 20 <|
  require s.ctx1.valid .seq <|
  .ok (storeResult store (bytesOfWords5 (sha1StreamWords s))
    { s with
      digest := digestRegs5 (bytesOfWords5 (sha1StreamWords s))
      ctx1 := HashCtx.cleared Words5.zero })

/-- EXEC[0x04] (R123). -/
def sha1Rule (store : Bool) (s : State) : ExecResult :=
  requireRange s (srcRange s) <|
  requireStore store s 20 <|
  withBytes (memRead s (srcRange s)) fun m =>
  .ok (storeResult store (sha1Digest m) { s with digest := digestRegs5 (sha1Digest m) })

/-- SHA1_INIT (R120). -/
def execSha1Init (s : State) : Host.Outcome State Fault Refusal := finish 0x01 s (sha1InitRule s)

/-- SHA1_UPDATE (R121). -/
def execSha1Update (s : State) : Host.Outcome State Fault Refusal := finish 0x02 s (sha1UpdateRule s)

/-- SHA1_FINAL (R122). -/
def execSha1Final (store : Bool) (s : State) : Host.Outcome State Fault Refusal := finish 0x03 s (sha1FinalRule store s)

/-- SHA1 (R123). -/
def execSha1 (store : Bool) (s : State) : Host.Outcome State Fault Refusal := finish 0x04 s (sha1Rule store s)

end Sys2Proof.Machine
end

