-- ==== Sys2Proof/Machine/Sha256.lean ====
section
/-! DEFINITION. The SHA-256 core: the algorithm of 42_sha256.md R126-R132 in its message-schedule pipeline form, and the commands
SHA256_INIT, SHA256_UPDATE, SHA256_FINAL and SHA256 (R133-R136). -/

namespace Sys2Proof.Machine

/-! ## Algorithm -/

/-- IV2 (R126). -/
def sha256IV : Words8 :=
  ⟨0x6A09E667, 0xBB67AE85, 0x3C6EF372, 0xA54FF53A, 0x510E527F, 0x9B05688C, 0x1F83D9AB, 0x5BE0CD19⟩

/-- K_0 .. K_31 (R127). -/
def sha256KLow : List Word :=
  [0x428A2F98, 0x71374491, 0xB5C0FBCF, 0xE9B5DBA5, 0x3956C25B, 0x59F111F1, 0x923F82A4, 0xAB1C5ED5,
   0xD807AA98, 0x12835B01, 0x243185BE, 0x550C7DC3, 0x72BE5D74, 0x80DEB1FE, 0x9BDC06A7, 0xC19BF174,
   0xE49B69C1, 0xEFBE4786, 0x0FC19DC6, 0x240CA1CC, 0x2DE92C6F, 0x4A7484AA, 0x5CB0A9DC, 0x76F988DA,
   0x983E5152, 0xA831C66D, 0xB00327C8, 0xBF597FC7, 0xC6E00BF3, 0xD5A79147, 0x06CA6351, 0x14292967]

/-- K_32 .. K_63 (R127). -/
def sha256KHigh : List Word :=
  [0x27B70A85, 0x2E1B2138, 0x4D2C6DFC, 0x53380D13, 0x650A7354, 0x766A0ABB, 0x81C2C92E, 0x92722C85,
   0xA2BFE8A1, 0xA81A664B, 0xC24B8B70, 0xC76C51A3, 0xD192E819, 0xD6990624, 0xF40E3585, 0x106AA070,
   0x19A4C116, 0x1E376C08, 0x2748774C, 0x34B0BCB5, 0x391C0CB3, 0x4ED8AA4A, 0x5B9CCA4F, 0x682E6FF3,
   0x748F82EE, 0x78A5636F, 0x84C87814, 0x8CC70208, 0x90BEFFFA, 0xA4506CEB, 0xBEF9A3F7, 0xC67178F2]

/-- The round constant K_t (R127). -/
def sha256K (t : Nat) : Word := (sha256KLow ++ sha256KHigh).getD t 0

/-- Ch (R128). -/
def chWord (e f g : Word) : Word := (e &&& f) ^^^ (~~~e &&& g)

/-- Maj (R128). -/
def majWord (a b c : Word) : Word := (a &&& b) ^^^ (a &&& c) ^^^ (b &&& c)

/-- Σ0 (R128). -/
def bigSigma0 (x : Word) : Word := rotr 2 x ^^^ rotr 13 x ^^^ rotr 22 x

/-- Σ1 (R128). -/
def bigSigma1 (x : Word) : Word := rotr 6 x ^^^ rotr 11 x ^^^ rotr 25 x

/-- σ0 (R128). -/
def smallSigma0 (x : Word) : Word := rotr 7 x ^^^ rotr 18 x ^^^ shr 3 x

/-- σ1 (R128). -/
def smallSigma1 (x : Word) : Word := rotr 17 x ^^^ rotr 19 x ^^^ shr 10 x

/-- The working state, which exists only while one block is compressed (10_state.md R48). -/
structure Sha256Work where
  a : Word
  b : Word
  c : Word
  d : Word
  e : Word
  f : Word
  g : Word
  h : Word
  /-- The pipeline w[0..15]. -/
  w : List Word
  /-- The round counter (10_state.md R22). -/
  t : Nat
deriving DecidableEq, Repr

/-- The pipeline loaded and the working variables set, before round 0 (R129). -/
def sha256Start (h : Words8) (block : List Byte) : Sha256Work :=
  { a := h.w0, b := h.w1, c := h.w2, d := h.w3, e := h.w4, f := h.w5, g := h.w6, h := h.w7
    w := loadPipeline block, t := 0 }

/-- T1 of a round (R129). -/
def sha256T1 (x : Sha256Work) : Word :=
  x.h + bigSigma1 x.e + chWord x.e x.f x.g + sha256K x.t + pipeWord x.w 0

/-- T2 of a round (R129). -/
def sha256T2 (x : Sha256Work) : Word := bigSigma0 x.a + majWord x.a x.b x.c

/-- Round t (R129): every right-hand side reads the old values (00_scope.md R13). -/
def sha256Round (x : Sha256Work) : Sha256Work :=
  { a := sha256T1 x + sha256T2 x
    b := x.a
    c := x.b
    d := x.c
    e := x.d + sha256T1 x
    f := x.e
    g := x.f
    h := x.g
    w := shiftPipeline x.w
      (smallSigma1 (pipeWord x.w 14) + pipeWord x.w 9 + smallSigma0 (pipeWord x.w 1) + pipeWord x.w 0)
    t := x.t + 1 }

/-- The working state after `k` rounds. -/
def sha256Rounds (k : Nat) (x : Sha256Work) : Sha256Work :=
  match k with
  | 0 => x
  | k + 1 => sha256Round (sha256Rounds k x)

/-- The sums that end a compression (R129). -/
def sha256Sum (h : Words8) (x : Sha256Work) : Words8 :=
  ⟨h.w0 + x.a, h.w1 + x.b, h.w2 + x.c, h.w3 + x.d, h.w4 + x.e, h.w5 + x.f, h.w6 + x.g, h.w7 + x.h⟩

/-- `compress2` (R129): 64 rounds; how many the hardware takes per clock cannot be observed (R137). -/
def compress2 (h : Words8) (block : List Byte) : Words8 := sha256Sum h (sha256Rounds 64 (sha256Start h block))

/-- `SHA256(M)`, the 32-byte digest (R132). -/
def sha256Digest (m : List Byte) : List Byte := bytesOfWords8 (hashWords compress2 sha256IV m)

/-! ## Commands -/

/-- EXEC[0x05] (R133). -/
def sha256InitRule (s : State) : ExecResult := .ok { s with ctx2 := freshCtx sha256IV }

/-- EXEC[0x06] (R134). -/
def sha256UpdateRule (s : State) : ExecResult :=
  requireRange s (srcRange s) <|
  require s.ctx2.valid .seq <|
  require (decide (s.ctx2.n + s.srcLen.toNat ≤ maxStreamBytes)) .tooLong <|
  withBytes (memRead s (srcRange s)) fun m =>
  .ok { s with ctx2 := absorb compress2 s.ctx2 m }

/-- H' of R135: the chaining words of the padded stream. -/
def sha256StreamWords (s : State) : Words8 := finalizeHash compress2 s.ctx2.H s.ctx2.buf s.ctx2.n

/-- EXEC[0x07] (R135). -/
def sha256FinalRule (store : Bool) (s : State) : ExecResult :=
  requireStore store s 32 <|
  require s.ctx2.valid .seq <|
  .ok (storeResult store (bytesOfWords8 (sha256StreamWords s))
    { s with
      digest := digestRegs8 (bytesOfWords8 (sha256StreamWords s))
      ctx2 := HashCtx.cleared Words8.zero })

/-- EXEC[0x08] (R136). -/
def sha256Rule (store : Bool) (s : State) : ExecResult :=
  requireRange s (srcRange s) <|
  requireStore store s 32 <|
  withBytes (memRead s (srcRange s)) fun m =>
  .ok (storeResult store (sha256Digest m) { s with digest := digestRegs8 (sha256Digest m) })

/-- SHA256_INIT (R133). -/
def execSha256Init (s : State) : Host.Outcome State Fault Refusal := finish 0x05 s (sha256InitRule s)

/-- SHA256_UPDATE (R134). -/
def execSha256Update (s : State) : Host.Outcome State Fault Refusal := finish 0x06 s (sha256UpdateRule s)

/-- SHA256_FINAL (R135). -/
def execSha256Final (store : Bool) (s : State) : Host.Outcome State Fault Refusal := finish 0x07 s (sha256FinalRule store s)

/-- SHA256 (R136). -/
def execSha256 (store : Bool) (s : State) : Host.Outcome State Fault Refusal := finish 0x08 s (sha256Rule store s)

end Sys2Proof.Machine
end

