-- ==== Sys2Proof/Machine/Hmac.lean ====
section
/-! DEFINITION. The HMAC wrappers (43_hmac.md R138-R141). -/

namespace Sys2Proof.Machine

/-- `prepare(Hf, Kb)`: the 64-byte key K0 (R139). -/
def prepareKey (hash : List Byte → List Byte) (kb : List Byte) : List Byte :=
  if 64 < kb.length then hash kb ++ List.replicate (64 - (hash kb).length) 0
  else kb ++ List.replicate (64 - kb.length) 0

/-- `X ⊕ b^64` (R138). -/
def xorPad (b : Byte) (x : List Byte) : List Byte := x.map (· ^^^ b)

/-- `HMAC_Hf(Kb, M)` (R138). -/
def hmac (hash : List Byte → List Byte) (kb m : List Byte) : List Byte :=
  let k0 := prepareKey hash kb
  hash (xorPad 0x5C k0 ++ hash (xorPad 0x36 k0 ++ m))

/-- EXEC[0x09] (R140). -/
def hmacSha1Rule (store : Bool) (s : State) : ExecResult :=
  requireRange s (srcRange s) <|
  requireRange s (keyRange s) <|
  requireStore store s 20 <|
  withBytes (memRead s (srcRange s)) fun m =>
  withBytes (memRead s (keyRange s)) fun kb =>
  .ok (storeResult store (hmac sha1Digest kb m) { s with digest := digestRegs5 (hmac sha1Digest kb m) })

/-- EXEC[0x0A] (R141). -/
def hmacSha256Rule (store : Bool) (s : State) : ExecResult :=
  requireRange s (srcRange s) <|
  requireRange s (keyRange s) <|
  requireStore store s 32 <|
  withBytes (memRead s (srcRange s)) fun m =>
  withBytes (memRead s (keyRange s)) fun kb =>
  .ok (storeResult store (hmac sha256Digest kb m) { s with digest := digestRegs8 (hmac sha256Digest kb m) })

/-- HMAC_SHA1 (R140). -/
def execHmacSha1 (store : Bool) (s : State) : Host.Outcome State Fault Refusal := finish 0x09 s (hmacSha1Rule store s)

/-- HMAC_SHA256 (R141). -/
def execHmacSha256 (store : Bool) (s : State) : Host.Outcome State Fault Refusal := finish 0x0A s (hmacSha256Rule store s)

end Sys2Proof.Machine
end

