-- ==== Sys2Proof/Machine/XorAddress.lean ====
section
/-! DEFINITION. The XOR-address obfuscator: XADDR_ENCODE and XADDR_DECODE (45_xor_address.md R152-R155; 30_encoding.md R97). -/

namespace Sys2Proof.Machine

/-- `xport(p, K)`: the port XOR the first two key bytes (R153). -/
def xport (p : Half) (k : List Byte) : Half := p ^^^ be16 (slice k 0 2)

/-- `xaddr(A, K, n)`: the n address bytes XOR the first n key bytes (R153). -/
def xaddr (a k : List Byte) (n : Nat) : List Byte := xorBytes a (slice k 0 n)

/-- The two address families: IPv4 = 1, IPv6 = 2 (10_state.md R43). -/
def knownFamily (f : Byte) : Bool := f == 1 || f == 2

/-- n of R153: 4 address bytes for family 1, 16 for family 2. -/
def addressLen (f : Byte) : Nat := if f = 1 then 4 else 16

/-- The address operand of XADDR_ENCODE (R154, 30_encoding.md R86). -/
def encodeAddress (s : State) : List Byte := if s.xaFamily = 1 then addr4Bytes s else addr16Bytes s

/-- V of R154: 0x00 ‖ f ‖ the obfuscated port ‖ the obfuscated address. -/
def xorValue (s : State) (k : List Byte) : List Byte :=
  [0x00, s.xaFamily] ++ bytes16 (xport s.xaPort k) ++ xaddr (encodeAddress s) k (addressLen s.xaFamily)

/-- EXEC[0x10] (R154): the family is checked before every range. -/
def xaddrEncodeRule (s : State) : ExecResult :=
  require (knownFamily s.xaFamily) .xaFamily <|
  requireRange s (hdrKeyRange s) <|
  requireRange s (dstRange s (4 + addressLen s.xaFamily)) <|
  withBytes (memRead s (hdrKeyRange s)) fun k =>
  .ok (memWrite { s with xaLen := BitVec.ofNat 8 (4 + addressLen s.xaFamily) } s.dstOff.toNat (xorValue s k))

/-- The registers a successful XADDR_DECODE writes, from the family byte, the bytes v after it and the key (R155). -/
def decodedAddress (s : State) (f : Byte) (v k : List Byte) : State :=
  let n := addressLen f
  let a := xaddr (slice v 2 (2 + n)) k n
  { s with
    xaFamily := f
    xaPort := xport (be16 (slice v 0 2)) k
    xaLen := BitVec.ofNat 8 (4 + n)
    xaAddr0 := wordAt a 0
    xaAddr1 := if f = 2 then wordAt a 1 else 0
    xaAddr2 := if f = 2 then wordAt a 2 else 0
    xaAddr3 := if f = 2 then wordAt a 3 else 0 }

/-- The family byte of the value, at SRC_OFF + 1; the reserved byte before it is never read (R155). -/
def familyByteRange (s : State) : MsgRange := ⟨s.srcOff.toNat + 1, 1⟩

/-- Port and address of the value: 2 + n bytes at SRC_OFF + 2 (R155). -/
def portAddressRange (s : State) (n : Nat) : MsgRange := ⟨s.srcOff.toNat + 2, 2 + n⟩

/-- EXEC[0x11] (R155). -/
def xaddrDecodeRule (s : State) : ExecResult :=
  requireRange s (srcRange s) <|
  requireRange s (hdrKeyRange s) <|
  require (decide (4 ≤ s.srcLen.toNat)) .xaLength <|
  withBytes (memRead s (familyByteRange s)) fun fb =>
  require (knownFamily (byteAt fb 0)) .xaFamily <|
  require (decide (s.srcLen.toNat = 4 + addressLen (byteAt fb 0))) .xaLength <|
  withBytes (memRead s (portAddressRange s (addressLen (byteAt fb 0)))) fun v =>
  withBytes (memRead s (hdrKeyRange s)) fun k =>
  .ok (decodedAddress s (byteAt fb 0) v k)

/-- XADDR_ENCODE (R154). -/
def execXaddrEncode (s : State) : Host.Outcome State Fault Refusal := finish 0x10 s (xaddrEncodeRule s)

/-- XADDR_DECODE (R155). -/
def execXaddrDecode (s : State) : Host.Outcome State Fault Refusal := finish 0x11 s (xaddrDecodeRule s)

end Sys2Proof.Machine
end

