-- ==== Sys2Proof/Machine/Dispatch.lean ====
section
/-! DEFINITION. The meaning of each instruction: a command's completion (40_bus_and_control.md R109, R113) or a host access (R99,
R100). -/

namespace Sys2Proof.Machine

def exec (i : Instr) (s : State) : Host.Outcome State Fault Refusal :=
  match i with
  | .nop => Sys2Proof.Machine.execNop s
  | .sha1Init => Sys2Proof.Machine.execSha1Init s
  | .sha1Update => Sys2Proof.Machine.execSha1Update s
  | .sha1Final store => Sys2Proof.Machine.execSha1Final store s
  | .sha1 store => Sys2Proof.Machine.execSha1 store s
  | .sha256Init => Sys2Proof.Machine.execSha256Init s
  | .sha256Update => Sys2Proof.Machine.execSha256Update s
  | .sha256Final store => Sys2Proof.Machine.execSha256Final store s
  | .sha256 store => Sys2Proof.Machine.execSha256 store s
  | .hmacSha1 store => Sys2Proof.Machine.execHmacSha1 store s
  | .hmacSha256 store => Sys2Proof.Machine.execHmacSha256 store s
  | .crc32 store => Sys2Proof.Machine.execCrc32 store s
  | .fingerprint store => Sys2Proof.Machine.execFingerprint store s
  | .fpVerify => Sys2Proof.Machine.execFpVerify s
  | .hdrEncode => Sys2Proof.Machine.execHdrEncode s
  | .hdrDecode => Sys2Proof.Machine.execHdrDecode s
  | .xaddrEncode => Sys2Proof.Machine.execXaddrEncode s
  | .xaddrDecode => Sys2Proof.Machine.execXaddrDecode s
  | .busWrite addr data => Sys2Proof.Machine.execBusWrite addr data s
  | .busRead addr => Sys2Proof.Machine.execBusRead addr s

end Sys2Proof.Machine
end

