-- ==== Sys2Proof/Machine/Engine.lean ====
section
/-! DEFINITION. What one move of each agent does: the engine's step (40_bus_and_control.md R107, R109), a host access of any size
(20_memory.md R63), the power-on reset input; and which move is next (notes/assumptions/2.md, 3.md). -/

namespace Sys2Proof.Machine

/-- The completion of an illegal command word: ILLEGAL_CMD and nothing but the common fields (R109, 60_exceptions.md R166). -/
def completeIllegal (c : Word) (s : State) : State := complete (cmdOpcode c) .illegalCmd s

/-- An instruction word runs: the decoded instruction's meaning, or the completion of an illegal command word (R109). -/
def runWord (w : InstrWord) (s : State) : Host.Outcome State Fault Refusal :=
  match w, decode w with
  | _, .ok i => exec i s
  | .cmd c, .error _ => .next (completeIllegal c s)
  | .bus _, .error _ => .next (respond s .busErr)

/-- `engine_step()`: the completion of eng.cmd while BUSY; no step while IDLE (R107, R109). -/
def engineStep (s : State) : Host.Outcome State Fault Refusal :=
  match s.eng.state with
  | .busy => runWord (.cmd s.eng.cmd) s
  | .idle => .next s

/-- A host access of `size` bits: one of 32 bits is the bus transaction `t`, any other is answered BUSERR with no effect
(20_memory.md R62, R63). -/
def hostAccess (size : Nat) (t : BusTxn) (s : State) : Host.Outcome State Fault Refusal :=
  if size = 32 then runWord (.bus t) s else .next (respond s .busErr)

/-- One move. -/
def runMove (m : Move) (s : State) : Host.Outcome State Fault Refusal :=
  match m with
  | .access size t => hostAccess size t s
  | .engineTurn => engineStep s
  | .powerOn => .next (powerOnInput s)

/-- The next move: the first pending one; with none pending it is the engine's turn, so that no run stays BUSY forever
(R107; notes/assumptions/3.md). -/
def nextMove (s : State) : Move :=
  match s.host.pending with
  | [] => .engineTurn
  | m :: _ => m

/-- The state with the next move taken off the pending ones. -/
def takeMove (s : State) : State := { s with host := { s.host with pending := s.host.pending.tail } }

end Sys2Proof.Machine
end

