-- ==== Sys2Proof/Machine/Step.lean ====
section
/-! DEFINITION. One step of the machine, and where a test puts the next instruction. -/

namespace Sys2Proof.Machine

/-- One step: the next move of one agent (20_memory.md R66, R75). -/
def step (s : State) : Host.Outcome State Fault Refusal := runMove (nextMove s) (takeMove s)

/-- `s` with the instruction whose bits are `w` made the very next one: a command word (at most 32 bits) as the accepted command of
a BUSY engine whose turn it is, a wider word as the host's next bus transaction (notes/assumptions/7.md). -/
def State.withFetchWord (s : State) (nbits w : Nat) : State :=
  if nbits ≤ 32 then
    { s with
      eng := { state := .busy, cmd := BitVec.ofNat 32 w }
      host := { s.host with pending := .engineTurn :: s.host.pending } }
  else
    { s with host := { s.host with pending := .access 32 (BitVec.ofNat 50 w) :: s.host.pending } }

end Sys2Proof.Machine
end

