-- ==== Sys2Proof/Machine/Assembly.lean ====
section
/-! DEFINITION. The spec's host assembly: statements and pseudo-instructions expanded into the host's accesses (30_encoding.md R94,
R95, R84). No step of the machine uses it. -/

namespace Sys2Proof.Machine

/-- A bus address as R94 names it. -/
inductive AsmAddr where
  /-- A register name of 10_state.md R24. -/
  | reg (r : Reg)
  /-- `MSG+n`, bus address 0x10000 + n. -/
  | msg (n : Nat)
  /-- A number. -/
  | num (a : BusAddr)
deriving DecidableEq, Repr

/-- The offset of a register (10_state.md R24). -/
def regOffset (r : Reg) : BitVec 12 :=
  match regTable.find? (fun row => row.reg == r) with
  | some row => row.offset
  | none => 0

/-- The bus address of an `AsmAddr` (R94). -/
def asmBusAddr (a : AsmAddr) : BusAddr :=
  match a with
  | .reg r => (regOffset r).setWidth 17
  | .msg n => BitVec.ofNat 17 (0x10000 + n)
  | .num a => a

/-- One line of host assembly (R94, R95). -/
inductive AsmStmt where
  /-- `wr ADDR, VALUE`. -/
  | wr (a : AsmAddr) (v : Word)
  /-- `rd ADDR`. -/
  | rd (a : AsmAddr)
  /-- `cmd NAME` and `cmd NAME.s`: the command word of the instruction. -/
  | cmd (i : Instr)
  /-- `wait` whose loop reads STATUS `reads + 1` times; how often is the host's run, not the text (notes/assumptions/17.md). -/
  | wait (reads : Nat)
  /-- `w1c MASK`. -/
  | w1c (mask : Word)
  /-- `set R1=V1, R2=V2, ...`. -/
  | set (assigns : List (Reg × Word))
  /-- `msg n, b0 b1 ... b(4k-1)`. -/
  | msg (n : Nat) (bytes : List Byte)
deriving DecidableEq, Repr

/-- The transaction of `wr`. -/
def asmWrite (a : AsmAddr) (v : Word) : BusTxn := busWord true (asmBusAddr a) v

/-- The transaction of `rd`. -/
def asmRead (a : AsmAddr) : BusTxn := busWord false (asmBusAddr a) 0

/-- `cmd NAME`: a write of the command word to CMD. A bus access is written as it is. -/
def asmCmd (i : Instr) : BusTxn :=
  match encode i with
  | .cmd w => asmWrite (.reg .cmd) w
  | .bus t => t

/-- `msg n, …`: one word write per four bytes (R95). -/
def asmMsg (n : Nat) (bytes : List Byte) (words : Nat) : List BusTxn :=
  (List.range words).map (fun j => asmWrite (.msg (n + 4 * j)) (wordAt bytes j))

/-- The bus transactions of a line (R95). -/
def expandStmt (a : AsmStmt) : List BusTxn :=
  match a with
  | .wr a v => [asmWrite a v]
  | .rd a => [asmRead a]
  | .cmd i => [asmCmd i]
  | .wait reads => List.replicate (reads + 1) (asmRead (.reg .status))
  | .w1c mask => [asmWrite (.reg .status) mask]
  | .set assigns => assigns.map (fun p => asmWrite (.reg p.1) p.2)
  | .msg n bytes => asmMsg n bytes (bytes.length / 4)

end Sys2Proof.Machine
end

