-- ==== Sys2Proof/WellFormed.lean ====
section
/-! DEFINITION. Which instructions keep the spec's rule on their operands. The only operand a rule restricts is the bus address, a
multiple of 4 (20_memory.md R62; opcode_table.json, rows BUS_WRITE and BUS_READ). An ill-formed access still has a meaning: it is
answered BUSERR (R63), so neither decoding nor `exec` asks for this check (notes/assumptions/10.md). -/

namespace Sys2Proof

/-- R62: A[1:0] = 0. -/
def alignedAddr (a : BusAddr) : Bool := a.extractLsb' 0 2 == 0

/-- The well-formedness check of an instruction. -/
def Instr.wellFormed (i : Instr) : Bool :=
  match i with
  | .nop => true
  | .sha1Init => true
  | .sha1Update => true
  | .sha1Final _ => true
  | .sha1 _ => true
  | .sha256Init => true
  | .sha256Update => true
  | .sha256Final _ => true
  | .sha256 _ => true
  | .hmacSha1 _ => true
  | .hmacSha256 _ => true
  | .crc32 _ => true
  | .fingerprint _ => true
  | .fpVerify => true
  | .hdrEncode => true
  | .hdrDecode => true
  | .xaddrEncode => true
  | .xaddrDecode => true
  | .busWrite addr _ => alignedAddr addr
  | .busRead addr => alignedAddr addr

end Sys2Proof
end

