-- ==== Sys2Proof/Safety.lean ====
section
/-! DEFINITION. What claims say of runs: the launch premises and the end of a run (70_reset_and_hazards.md R197, R198), the states a
run reaches, and the invariant every step keeps. -/

namespace Sys2Proof

/-! ## Classes of instructions -/

/-- The opcode of a command; a bus access has none (30_encoding.md R90). -/
def Instr.opcode (i : Instr) : Option Byte :=
  match encode i with
  | .cmd w => some (cmdOpcode w)
  | .bus _ => none

/-- The commands whose rule reads or writes the SHA-1 streaming context (41_sha1.md R120-R122). -/
def Instr.usesCtx1 (i : Instr) : Prop := i = .sha1Init ∨ i = .sha1Update ∨ ∃ store, i = .sha1Final store

/-- The commands whose rule reads or writes the SHA-256 streaming context (42_sha256.md R133-R135). -/
def Instr.usesCtx2 (i : Instr) : Prop := i = .sha256Init ∨ i = .sha256Update ∨ ∃ store, i = .sha256Final store

/-- The six digest commands (10_state.md R21, R39). -/
def Instr.writesDigest (i : Instr) : Prop :=
  ∃ store, i = .sha1Final store ∨ i = .sha1 store ∨ i = .sha256Final store ∨ i = .sha256 store ∨
    i = .hmacSha1 store ∨ i = .hmacSha256 store

/-- The CRC family (10_state.md R21, R40). -/
def Instr.writesCrcOut (i : Instr) : Prop := (∃ store, i = .crc32 store ∨ i = .fingerprint store) ∨ i = .fpVerify

/-- The commands that may write MSGBUF: STORE = 1, or one of the two encoders (20_memory.md R65). -/
def Instr.writesMsgbuf (i : Instr) : Prop :=
  i = .sha1Final true ∨ i = .sha1 true ∨ i = .sha256Final true ∨ i = .sha256 true ∨ i = .hmacSha1 true ∨
    i = .hmacSha256 true ∨ i = .crc32 true ∨ i = .fingerprint true ∨ i = .hdrEncode ∨ i = .xaddrEncode

end Sys2Proof

namespace Sys2Proof.Machine

/-- `idle`: nothing is in flight (R198). -/
abbrev State.isIdle (s : State) : Prop := s.eng.state = .idle

/-- `defined(off, len)`: the bytes are all defined (R198). -/
abbrev State.definedRange (s : State) (off len : Nat) : Prop := ∀ i, i < len → (Memory.read s.mem (off + i)).isSome = true

/-- A host access; the other moves are the engine's and the platform's. -/
def Move.isAccess (m : Move) : Bool :=
  match m with
  | .access _ _ => true
  | .engineTurn => false
  | .powerOn => false

/-- A run has ended: the host has made its last access and the engine is IDLE (R197). A turn of the engine or a power-on reset may
still be pending: neither is an access. -/
abbrev State.runEnded (s : State) : Prop := (∀ m ∈ s.host.pending, m.isAccess = false) ∧ s.isIdle

/-- The run from a state ends at the first state where it has ended (R197). A step that faults leads to no state, so a run with a model
fault never ends (R197, 20_memory.md R73). -/
inductive RunEndsAt : State → State → Prop where
  | here {s : State} (h : s.runEnded) : RunEndsAt s s
  | step {s t u : State} (h : ¬ s.runEnded) (hs : step s = .next t) (ht : RunEndsAt t u) : RunEndsAt s u

/-- What is observed at the end of a run: every register as a host read returns it, and the defined MSGBUF bytes (R197). -/
def State.observe (s : State) : List (Reg × Word) × Memory := (regTable.map (fun row => (row.reg, readReg s row.reg)), s.mem)

/-- A host's run from power-on reset of an instance `cfg`: the moves are placed as the pending ones. -/
def State.launch (cfg : Config) (moves : List Move) : State :=
  { State.powerOnReset cfg with host := { pending := moves, responses := [] } }

/-- The states reached from `s` by steps that answer a next state. -/
inductive Reachable (s : State) : State → Prop where
  | refl : Reachable s s
  | step {t u : State} (ht : Reachable s t) (hu : step t = .next u) : Reachable s u

/-! ## The terms the statements use -/

/-- The state after a completion with code OK of a command of opcode `op`, from `s` with the effects made: DONE <- 1, ERRCODE <- 0x00,
LAST_OP <- op, the engine IDLE, ERR as it was (60_exceptions.md R164). -/
def State.succeeded (op : Byte) (s : State) : State :=
  { s with
    status := { s.status with done := true, errcode := .ok, lastOp := op }
    eng := { s.eng with state := .idle } }

/-- The state after a completion with another code: the same fields, and ERR <- 1 (60_exceptions.md R164). -/
def State.failed (op : Byte) (code : ErrCode) (s : State) : State :=
  { s with
    status := { s.status with done := true, err := true, errcode := code, lastOp := op }
    eng := { s.eng with state := .idle } }

/-- The defined bytes at `off`, `off + 1`, … are those of `bs`. -/
def Memory.holds (m : Memory) (off : Nat) (bs : List Byte) : Prop :=
  ∀ i, i < bs.length → Memory.read m (off + i) = bs[i]?

/-- `m'` is `m` after `bs` was written at `off`, if `store` says so: each of those bytes reads as written, every other offset as it
did. -/
def Memory.afterStore (m' m : Memory) (store : Bool) (off : Nat) (bs : List Byte) : Prop :=
  ∀ a, Memory.read m' a =
    if store = true ∧ off ≤ a ∧ a < off + bs.length then bs[a - off]? else Memory.read m a

/-- The 26 legal command words as 30_encoding.md R92 lists them. -/
def legalWords : List Word :=
  [0x000, 0x001, 0x002, 0x003, 0x004, 0x005, 0x006, 0x007, 0x008, 0x009, 0x00A, 0x00B, 0x00C, 0x00D, 0x00E, 0x00F, 0x010, 0x011,
   0x103, 0x104, 0x107, 0x108, 0x109, 0x10A, 0x10B, 0x10C]

/-- The mapped bus addresses outside the MSGBUF window, as 10_state.md R24 lists them. -/
def registerAddresses : List Nat :=
  [0x000, 0x004, 0x008, 0x00C, 0x010, 0x014, 0x018, 0x01C, 0x020, 0x024, 0x028,
   0x040, 0x044, 0x048, 0x04C, 0x050, 0x054, 0x058, 0x05C, 0x060,
   0x080, 0x084, 0x088, 0x08C, 0x090, 0x094, 0x098, 0x09C,
   0x0A0, 0x0A4, 0x0A8, 0x0AC, 0x0B0, 0x0B4, 0x0B8]

/-- The engine moves next: its turn stands first, or no move is pending (40_bus_and_control.md R107). -/
def State.engineNext (s : State) : Prop := s.host.pending = [] ∨ ∃ rest, s.host.pending = .engineTurn :: rest

/-- The host's next move is a 32-bit access of transaction word `t`. -/
def State.accessNext (s : State) (t : BusTxn) : Prop := ∃ rest, s.host.pending = .access 32 t :: rest

/-- The next step runs the instruction `i`: the accepted command, or the transaction of the host's next 32-bit access. -/
def State.runsNext (s : State) (i : Instr) : Prop :=
  (s.eng.state = .busy ∧ s.engineNext ∧ decode (.cmd s.eng.cmd) = .ok i) ∨ ∃ t, s.accessNext t ∧ decodeBus t = i

/-- What XADDR_DECODE reads: the family byte; then, only if the length checks pass, port and address, and the key (20_memory.md
R65, 45_xor_address.md R155). -/
def xaddrDecodeReads (s : State) : List MsgRange :=
  if 4 ≤ s.srcLen.toNat then
    familyByteRange s ::
      (match Memory.read s.mem (s.srcOff.toNat + 1) with
        | some f =>
          if knownFamily f = true ∧ s.srcLen.toNat = 4 + addressLen f then [portAddressRange s (addressLen f), hdrKeyRange s] else []
        | none => [])
  else []

/-- What a bus access reads of MSGBUF: a read of a MSGBUF word, its four bytes (20_memory.md R56, R58). -/
def busReads (t : BusTarget) : List MsgRange :=
  match t with
  | .msgWord i => [⟨4 * i, 4⟩]
  | .reg _ => []
  | .misaligned => []
  | .unmapped => []

end Sys2Proof.Machine

namespace Sys2Proof

open Machine in
/-- The MSGBUF ranges that an instruction reads at a state (the column "reads from MSGBUF" of 20_memory.md R65). -/
def Instr.reads (i : Instr) (s : State) : List MsgRange :=
  match i with
  | .nop => []
  | .sha1Init => []
  | .sha1Update => [srcRange s]
  | .sha1Final _ => []
  | .sha1 _ => [srcRange s]
  | .sha256Init => []
  | .sha256Update => [srcRange s]
  | .sha256Final _ => []
  | .sha256 _ => [srcRange s]
  | .hmacSha1 _ => [keyRange s, srcRange s]
  | .hmacSha256 _ => [keyRange s, srcRange s]
  | .crc32 _ => [srcRange s]
  | .fingerprint _ => [srcRange s]
  | .fpVerify => [srcRange s]
  | .hdrEncode => []
  | .hdrDecode => if 20 ≤ s.srcLen.toNat then [hdrSourceRange s] else []
  | .xaddrEncode => [hdrKeyRange s]
  | .xaddrDecode => xaddrDecodeReads s
  | .busWrite _ _ => []
  | .busRead addr => busReads (busTarget s addr)

end Sys2Proof

namespace Sys2Proof.Machine

/-! ## The invariant -/

/-- The shape of a streaming context (10_state.md R45, R46): a pending buffer of at most 63 bytes that holds what n leaves over whole
blocks, n within the limit, and a context that is not valid as it is after reset. -/
abbrev HashCtx.wf {σ : Type} (zero : σ) (c : HashCtx σ) : Prop :=
  c.buf.length = c.n % 64 ∧ c.n ≤ maxStreamBytes ∧ (c.valid = false → c = HashCtx.cleared zero)

/-- The invariant of STUNCORE's state: the parameter is legal (00_scope.md R6); MSGBUF is in its canonical form and inside its size
(10_state.md R44); both contexts have their shape (R45, R46); HDR_COOKIE is 0 or the magic cookie (R41); HDR_VALID goes with a decoded
cookie (R33, R41); HDR_TYPE has its two leading bits 0 (44_stun_header.md R146, R149); XA_LEN is 0, 8 or 20 (R43). -/
structure State.Inv (s : State) : Prop where
  cfg : s.cfg.wf
  memCanonical : Memory.wf s.mem = true
  memInside : Memory.below s.cfg.msgbufSize s.mem = true
  ctx1 : s.ctx1.wf Words5.zero
  ctx2 : s.ctx2.wf Words8.zero
  cookie : s.hdrCookie = 0 ∨ s.hdrCookie = magicCookie
  validCookie : s.status.hdrValid = true → s.hdrCookie = magicCookie
  leadingBits : s.hdrType.extractLsb' 14 2 = 0
  xaLen : s.xaLen = 0 ∨ s.xaLen = 8 ∨ s.xaLen = 20

end Sys2Proof.Machine
end

