-- ==== Sys2Proof/Certificates/Slice0/Obligations.lean ====
section
/-! DEFINITION. The statements for the provers. Each docstring names the rules it formalises; where a clause is the model's own choice
it says so and names the log entry. -/

open Sys2Proof Sys2Proof.Machine

/-! ## Encoding -/

/-- 30_encoding.md R83, R84, R90: decoding an encoded instruction gives it back, for every instruction and operand; a command word
that decodes to an instruction is that instruction's encoding; a write transaction is the encoding of what it decodes to, and so is a
read transaction whose data bits are 0. (That a read's data bits are ignored is log entry 6, DEDUCED.) -/
def Obligations.DecodeAndEncodeAgree : Prop :=
  (∀ i : Instr, decode (encode i) = .ok i) ∧
  (∀ (c : Word) (i : Instr), decode (.cmd c) = .ok i → encode i = .cmd c) ∧
  (∀ t : BusTxn, t.getLsbD 49 = true → encode (decodeBus t) = .bus t) ∧
  (∀ t : BusTxn, t.getLsbD 49 = false → decodeBus t = .busRead (t.extractLsb' 32 17)) ∧
  (∀ t : BusTxn, t.getLsbD 49 = false → t.extractLsb' 0 32 = 0 → encode (decodeBus t) = .bus t)

/-- 30_encoding.md R92, 40_bus_and_control.md R108: exactly the 26 listed command words decode to an instruction, every other of the
2^32 is illegal; and `legal(c)` of R108, its three conditions written out on the number c, is the same set. -/
def Obligations.ExactlyTwentySixWordsAreLegal : Prop :=
  legalWords.length = 26 ∧ legalWords.Nodup ∧
  ∀ c : Word, ((∃ i, decode (.cmd c) = .ok i) ↔ c ∈ legalWords) ∧
    (c ∈ legalWords ↔
      (c.toNat / 512 = 0 ∧ c.toNat % 256 ≤ 0x11 ∧
        (c.toNat / 256 % 2 = 0 ∨ c.toNat % 256 ∈ [0x03, 0x04, 0x07, 0x08, 0x09, 0x0A, 0x0B, 0x0C])))

/-- 95_test_vectors.md section 3: words of the programs, one or more for every family of the table, decode to the instructions the
listings give them. -/
def Obligations.ListedWordsDecode : Prop :=
  decode (.cmd 0x000) = .ok .nop ∧ decode (.cmd 0x103) = .ok (.sha1Final true) ∧ decode (.cmd 0x008) = .ok (.sha256 false) ∧
  decode (.cmd 0x109) = .ok (.hmacSha1 true) ∧ decode (.cmd 0x10C) = .ok (.fingerprint true) ∧
  decode (.cmd 0x00F) = .ok .hdrDecode ∧ decode (.cmd 0x010) = .ok .xaddrEncode ∧
  decode (.bus 0x200100000000E) = .ok (.busWrite 0x00010 0x0000000E) ∧
  decode (.bus 0x300206E7F1EFF) = .ok (.busWrite 0x10020 0x6E7F1EFF) ∧
  decode (.bus 0x1001800000000) = .ok (.busRead 0x10018)

/-! ## The step -/

/-- 40_bus_and_control.md R107, R109, R99, R100, 30_encoding.md R84: a step runs the decoded instruction. While BUSY, when the engine
moves next and the accepted word decodes to i, the step is exec of i; when the host's next move is a 32-bit access whose transaction word
decodes to i, the step is exec of i; each at the state with that move taken off the pending ones. (Which move is next is the model's
input, log entries 2 and 3.) -/
def Obligations.StepRunsDecodedInstruction : Prop :=
  (∀ (s : State) (i : Instr), s.eng.state = .busy → s.engineNext → decode (.cmd s.eng.cmd) = .ok i →
    step s = exec i (takeMove s)) ∧
  (∀ (s : State) (t : BusTxn) (i : Instr), s.accessNext t → decode (.bus t) = .ok i → step s = exec i (takeMove s))

/-- 60_exceptions.md R166, with R91 and R109: while BUSY with an illegal word accepted, the engine's step changes nothing but DONE, ERR,
ERRCODE = ILLEGAL_CMD, LAST_OP = CMD[7:0] and the engine's state; HDR_VALID and FP_MATCH keep their values, whatever CMD[7:0] is. -/
def Obligations.IllegalCommandOnlyReports : Prop :=
  ∀ s : State, s.eng.state = .busy → s.engineNext → s.eng.cmd ∉ legalWords →
    step s = .next ((takeMove s).failed (s.eng.cmd.extractLsb' 0 8) .illegalCmd)

/-- R107, R173: the engine's move always ends with the engine IDLE, and IDLE it has no step: the move then changes nothing but the
pending moves. -/
def Obligations.EngineMoveEndsIdle : Prop :=
  ∀ s : State, s.engineNext →
    (∀ t, step s = .next t → t.eng.state = .idle) ∧ (s.eng.state = .idle → step s = .next (takeMove s))

/-- R107, D31 with log entry 3 (DEDUCED): no run stays BUSY. One step more than the moves still pending leaves the engine IDLE, with
no move pending, unless the run stops in the model fault. -/
def Obligations.NoRunStaysBusy : Prop :=
  ∀ (s t : State), Host.Core.run Sys2Proof.core (s.host.pending.length + 1) s = .next t →
    t.eng.state = .idle ∧ t.host.pending = []

/-- R49 with 93_implementation_defined.md I-4: no rule reads eng.cmd while IDLE. Two IDLE states that differ in it step alike, and what
they step to differs in it only where it is IDLE again. -/
def Obligations.IdleCommandWordIsUnobservable : Prop :=
  ∀ (s : State) (c : Word), s.eng.state = .idle →
    (∀ t, step s = .next t →
      ∃ t', step { s with eng := { s.eng with cmd := c } } = .next t' ∧
        { t' with eng := { t'.eng with cmd := t.eng.cmd } } = t ∧ (t.eng.state = .busy → t'.eng.cmd = t.eng.cmd)) ∧
    (∀ f, step s = .fault f → step { s with eng := { s.eng with cmd := c } } = .fault f)

/-- 60_exceptions.md R173, 20_memory.md R73, R65: no step is refused; and a step faults, for a legal parameter, only by reading an undefined
byte: the instruction it runs names, in the ranges R65 lets it read, a byte inside MSGBUF that is undefined. Bytes that R65 does not let
it read (HDR_DECODE's bytes 20.., XADDR_DECODE's reserved byte, any byte of a rule that reads none) stop nothing. -/
def Obligations.OnlyUndefinedBytesStopTheMachine : Prop :=
  (∀ (s : State) (r : Refusal), step s ≠ .refused r) ∧
  (∀ (s : State) (f : Fault), s.cfg.wf → step s = .fault f →
    f = .undefinedByte ∧ ∃ (i : Instr) (r : MsgRange) (a : Nat), s.runsNext i ∧ r ∈ i.reads s ∧ r.off ≤ a ∧ a < r.off + r.len ∧
      a < s.cfg.msgbufSize ∧ Memory.read s.mem a = none)

/-! ## Invariants -/

/-- Every step keeps the invariant (00_scope.md R6; 10_state.md R33, R41, R43-R46; 44_stun_header.md R146, R149), and the parameter.
(That State carries the parameter is log entry 1.) -/
def Obligations.StepKeepsInvariant : Prop :=
  ∀ s t : State, s.Inv → step s = .next t → t.Inv ∧ t.cfg = s.cfg

/-- The invariant holds after power-on reset of every legal instance, the default one among them. -/
def Obligations.ResetMeetsInvariant : Prop :=
  State.reset.Inv ∧ ∀ cfg : Config, cfg.wf → (State.powerOnReset cfg).Inv

/-- 10_state.md R44: a defined byte stays defined until the next power-on reset, soft resets included. -/
def Obligations.DefinedBytesStayDefined : Prop :=
  ∀ (s t : State) (a : Nat), step s = .next t → (∀ rest, s.host.pending ≠ .powerOn :: rest) →
    (Memory.read s.mem a).isSome = true → (Memory.read t.mem a).isSome = true

/-! ## Reset -/

/-- 70_reset_and_hazards.md R183, row by row, as a host reads it and as the contexts, the engine and irq hold it; MSGBUF is undefined
everywhere. And the power-on reset input (R182), whatever the state, gives that state. (That it is a move between two steps and keeps the
model's own fields is log entry 11, DEDUCED.) -/
def Obligations.PowerOnResetValues : Prop :=
  (∀ cfg : Config,
    (∀ row ∈ regTable, readReg (State.powerOnReset cfg) row.reg =
      if row.reg = .id then 0x53544331
      else if row.reg = .caps then BitVec.ofNat 32 (cfg.msgbufSize / 4) ||| 0x003F0000 else 0) ∧
    readReg State.reset .caps = 0x003F0200 ∧
    (∀ a, Memory.read (State.powerOnReset cfg).mem a = none) ∧
    (State.powerOnReset cfg).ctx1 = { H := ⟨0, 0, 0, 0, 0⟩, buf := [], n := 0, valid := false } ∧
    (State.powerOnReset cfg).ctx2 = { H := ⟨0, 0, 0, 0, 0, 0, 0, 0⟩, buf := [], n := 0, valid := false } ∧
    (State.powerOnReset cfg).eng = { state := .idle, cmd := 0 } ∧
    irq (State.powerOnReset cfg) = false) ∧
  (∀ (s : State) (rest : List Move), s.host.pending = .powerOn :: rest →
    step s = .next { State.powerOnReset s.cfg with host := { pending := rest, responses := s.host.responses } })

/-- 40_bus_and_control.md R103, R105: a CTRL write with D[1] = 1, BUSY or not and whatever D[0], gives every register, context and the
engine the values of power-on reset, keeps MSGBUF, and abandons a command in flight; with D[1] = 0 it sets IRQ_EN to D[0] only. -/
def Obligations.CtrlWriteResetsOrSetsIrqEn : Prop :=
  ∀ (s : State) (d : Word),
    (d.getLsbD 1 = true → exec (.busWrite 0x00008 d) s =
      .next { State.powerOnReset s.cfg with
        mem := s.mem, host := { s.host with responses := .ok :: s.host.responses } }) ∧
    (d.getLsbD 1 = false → exec (.busWrite 0x00008 d) s =
      .next { s with irqEn := d.getLsbD 0, host := { s.host with responses := .ok :: s.host.responses } })

/-! ## Bus accesses -/

/-- 20_memory.md R63: an access of another size than 32 bits, or at an address that is no multiple of 4, is answered BUSERR and has no
effect on any state. (The answer's place in State and the narrow access as a move are log entries 4 and 9.) -/
def Obligations.NarrowOrMisalignedAccessIsBusError : Prop :=
  (∀ (s : State) (size : Nat) (t : BusTxn) (rest : List Move), size ≠ 32 → s.host.pending = .access size t :: rest →
    step s = .next (respond (takeMove s) .busErr)) ∧
  (∀ (s : State) (a : BusAddr) (d : Word), a.toNat % 4 ≠ 0 →
    exec (.busWrite a d) s = .next (respond s .busErr) ∧ exec (.busRead a) s = .next (respond s .busErr))

/-- 20_memory.md R71: an aligned access to an unmapped address is answered BUSERR and has no effect on any state. The mapped addresses
are those of 10_state.md R24 and the MSGBUF window (R69). -/
def Obligations.UnmappedAccessIsBusError : Prop :=
  ∀ (s : State) (a : BusAddr) (d : Word), a.toNat % 4 = 0 →
    (a.toNat < 0x10000 → a.toNat ∉ registerAddresses) → (0x10000 ≤ a.toNat → 0x10000 + s.cfg.msgbufSize ≤ a.toNat) →
    exec (.busWrite a d) s = .next (respond s .busErr) ∧ exec (.busRead a) s = .next (respond s .busErr)

/-- 40_bus_and_control.md R100 with 10_state.md R23-R27, R38-R43: a read of each register answers its value, zero-extended, and changes
nothing but the host's record of answers; CMD reads 0. (STATUS is the next statement's.) -/
def Obligations.BusReadReturnsRegister : Prop :=
  ∀ s : State, ∀ p ∈
    ([(0x00000, 0x53544331), (0x00004, BitVec.ofNat 32 (s.cfg.msgbufSize / 4) ||| 0x003F0000),
      (0x00008, if s.irqEn then 1 else 0), (0x0000C, statusWord s), (0x00010, 0),
      (0x00014, s.srcOff), (0x00018, s.srcLen), (0x0001C, s.dstOff), (0x00020, s.keyOff), (0x00024, s.keyLen),
      (0x00028, s.hdrOff),
      (0x00040, s.digest.w0), (0x00044, s.digest.w1), (0x00048, s.digest.w2), (0x0004C, s.digest.w3),
      (0x00050, s.digest.w4), (0x00054, s.digest.w5), (0x00058, s.digest.w6), (0x0005C, s.digest.w7),
      (0x00060, s.crcOut),
      (0x00080, s.hdrType.setWidth 32), (0x00084, s.hdrClass.setWidth 32), (0x00088, s.hdrMethod.setWidth 32),
      (0x0008C, s.hdrLength.setWidth 32), (0x00090, s.hdrCookie),
      (0x00094, s.txid0), (0x00098, s.txid1), (0x0009C, s.txid2),
      (0x000A0, s.xaFamily.setWidth 32), (0x000A4, s.xaPort.setWidth 32),
      (0x000A8, s.xaAddr0), (0x000AC, s.xaAddr1), (0x000B0, s.xaAddr2), (0x000B4, s.xaAddr3),
      (0x000B8, s.xaLen.setWidth 32)] : List (BusAddr × Word)),
    exec (.busRead p.1) s = .next (respond s (.data p.2))

/-- 10_state.md R28, R29, R35, R36, with the thirteen numbers of 60_exceptions.md R163: the word a read of STATUS answers, field by field:
BUSY mirrors the engine, the two ACTIVE bits mirror the contexts' valid bits, ERRCODE is the number of the code recorded, LAST_OP stands
in its byte, and [31:24] is 0. -/
def Obligations.StatusWordFields : Prop :=
  ∀ s : State,
    exec (.busRead 0x0000C) s = .next (respond s (.data (statusWord s))) ∧
    ((statusWord s).getLsbD 0 = true ↔ s.eng.state = .busy) ∧
    (statusWord s).getLsbD 1 = s.status.done ∧ (statusWord s).getLsbD 2 = s.status.err ∧
    (statusWord s).getLsbD 3 = s.status.ovr ∧ (statusWord s).getLsbD 4 = s.status.hdrValid ∧
    (statusWord s).getLsbD 5 = s.status.fpMatch ∧ (statusWord s).getLsbD 6 = s.ctx1.valid ∧
    (statusWord s).getLsbD 7 = s.ctx2.valid ∧
    (∃ p ∈ ([(.ok, 0x00), (.illegalCmd, 0x01), (.range, 0x02), (.seq, 0x03), (.tooLong, 0x04), (.hdrShort, 0x10),
        (.hdrLeadingBits, 0x11), (.hdrLenAlign, 0x12), (.hdrLenMismatch, 0x13), (.hdrCookie, 0x14), (.xaFamily, 0x20),
        (.xaLength, 0x21), (.fpShort, 0x30)] : List (ErrCode × Byte)),
      s.status.errcode = p.1 ∧ (statusWord s).extractLsb' 8 8 = p.2) ∧
    (statusWord s).extractLsb' 16 8 = s.status.lastOp ∧ (statusWord s).extractLsb' 24 8 = 0

/-- 40_bus_and_control.md R99 with 10_state.md R23, R38, R41-R43: while IDLE, a write to each RW register but CTRL and STATUS stores the
data cut to the field, and changes nothing else; while IDLE or BUSY, a write to a read-only register changes nothing. -/
def Obligations.BusWriteStoresRegister : Prop :=
  ∀ (s : State) (d : Word),
    (s.eng.state = .idle → ∀ p ∈
      ([(0x00014, { s with srcOff := d }), (0x00018, { s with srcLen := d }), (0x0001C, { s with dstOff := d }),
        (0x00020, { s with keyOff := d }), (0x00024, { s with keyLen := d }), (0x00028, { s with hdrOff := d }),
        (0x00084, { s with hdrClass := d.setWidth 16 }), (0x00088, { s with hdrMethod := d.setWidth 16 }),
        (0x0008C, { s with hdrLength := d.setWidth 16 }),
        (0x00094, { s with txid0 := d }), (0x00098, { s with txid1 := d }), (0x0009C, { s with txid2 := d }),
        (0x000A0, { s with xaFamily := d.setWidth 8 }), (0x000A4, { s with xaPort := d.setWidth 16 }),
        (0x000A8, { s with xaAddr0 := d }), (0x000AC, { s with xaAddr1 := d }), (0x000B0, { s with xaAddr2 := d }),
        (0x000B4, { s with xaAddr3 := d })] : List (BusAddr × State)),
      exec (.busWrite p.1 d) s = .next (respond p.2 .ok)) ∧
    (∀ a ∈ ([0x00000, 0x00004, 0x00040, 0x00044, 0x00048, 0x0004C, 0x00050, 0x00054, 0x00058, 0x0005C, 0x00060, 0x00080,
        0x00090, 0x000B8] : List BusAddr),
      exec (.busWrite a d) s = .next (respond s .ok))

/-- 40_bus_and_control.md R106: while IDLE, a CMD write of any word, legal or not, makes the engine BUSY with that word, and nothing
else changes: DONE, ERR, ERRCODE and LAST_OP keep their values. While BUSY it is dropped: only OVR is set. -/
def Obligations.CmdWriteIsAccepted : Prop :=
  ∀ (s : State) (d : Word),
    (s.eng.state = .idle → exec (.busWrite 0x00010 d) s =
      .next (respond { s with eng := { state := .busy, cmd := d } } .ok)) ∧
    (s.eng.state = .busy → exec (.busWrite 0x00010 d) s =
      .next (respond { s with status := { s.status with ovr := true } } .ok))

/-- 40_bus_and_control.md R104: a STATUS write, BUSY or not, clears DONE, ERR and OVR where D[1], D[2], D[3] are 1 and changes nothing
else. -/
def Obligations.StatusWriteClearsWrittenOnes : Prop :=
  ∀ (s : State) (d : Word),
    ∃ t, exec (.busWrite 0x0000C d) s = .next (respond t .ok) ∧
      t = { s with status := { s.status with done := t.status.done, err := t.status.err, ovr := t.status.ovr } } ∧
      t.status.done = (if d.getLsbD 1 then false else s.status.done) ∧
      t.status.err = (if d.getLsbD 2 then false else s.status.err) ∧
      t.status.ovr = (if d.getLsbD 3 then false else s.status.ovr)

/-- 40_bus_and_control.md R102: while BUSY, a write to CMD, to any RW register other than CTRL and STATUS, or to a mapped MSGBUF word
changes nothing but STATUS.OVR <- 1, and is answered OK; writes to CTRL and STATUS are performed; a write to a read-only register is
ignored without setting OVR. -/
def Obligations.WritesWhileBusyAreDropped : Prop :=
  ∀ (s : State) (d : Word), s.eng.state = .busy →
    (∀ a : BusAddr,
      (a ∈ ([0x00010, 0x00014, 0x00018, 0x0001C, 0x00020, 0x00024, 0x00028, 0x00084, 0x00088, 0x0008C, 0x00094, 0x00098, 0x0009C,
        0x000A0, 0x000A4, 0x000A8, 0x000AC, 0x000B0, 0x000B4] : List BusAddr) ∨
      (0x10000 ≤ a.toNat ∧ a.toNat % 4 = 0 ∧ a.toNat < 0x10000 + s.cfg.msgbufSize)) →
      exec (.busWrite a d) s = .next (respond { s with status := { s.status with ovr := true } } .ok)) ∧
    (d.getLsbD 1 = false → exec (.busWrite 0x00008 d) s = .next (respond { s with irqEn := d.getLsbD 0 } .ok)) ∧
    (d.getLsbD 1 = true → exec (.busWrite 0x00008 d) s =
      .next (respond { State.powerOnReset s.cfg with mem := s.mem, host := s.host } .ok)) ∧
    (exec (.busWrite 0x0000C d) s = .next (respond { s with status := { s.status with
      done := s.status.done && !d.getLsbD 1, err := s.status.err && !d.getLsbD 2, ovr := s.status.ovr && !d.getLsbD 3 } } .ok)) ∧
    (∀ a ∈ ([0x00000, 0x00004, 0x00040, 0x00044, 0x00048, 0x0004C, 0x00050, 0x00054, 0x00058, 0x0005C, 0x00060, 0x00080,
        0x00090, 0x000B8] : List BusAddr),
      exec (.busWrite a d) s = .next (respond s .ok))

/-- 20_memory.md R58: the bus word at 0x10000 + 4i reads as be32 of MSGBUF[4i..4i+4), MSGBUF[4i] in bits [31:24], and changes nothing; a
write of v while IDLE makes those four bytes bytes32(v), defined, leaves every other byte as it was, and changes nothing else. -/
def Obligations.MsgbufWordLanes : Prop :=
  ∀ (s : State) (i : Nat) (a : BusAddr), a.toNat = 0x10000 + 4 * i → 4 * i < s.cfg.msgbufSize →
    (∀ b0 b1 b2 b3 : Byte, Memory.holds s.mem (4 * i) [b0, b1, b2, b3] →
      exec (.busRead a) s = .next (respond s (.data (b0 ++ b1 ++ b2 ++ b3)))) ∧
    (∀ v : Word, s.eng.state = .idle →
      ∃ t, exec (.busWrite a v) s = .next (respond t .ok) ∧ t = { s with mem := t.mem } ∧
        Memory.afterStore t.mem s.mem true (4 * i)
          [v.extractLsb' 24 8, v.extractLsb' 16 8, v.extractLsb' 8 8, v.extractLsb' 0 8])

/-- 20_memory.md R67: no bus read has a side effect, and after any bus read every bus read answers what it answered before. (The host's
record of its answers is no state of the machine, log entry 4.) -/
def Obligations.BusReadsAreIdempotent : Prop :=
  ∀ (s t : State) (b : BusAddr), exec (.busRead b) s = .next t →
    (∃ r, t = respond s r) ∧
    (∀ (a : BusAddr) (r : BusResponse), exec (.busRead a) s = .next (respond s r) → exec (.busRead a) t = .next (respond t r))

/-- 10_state.md R50, 60_exceptions.md R167, 40_bus_and_control.md R113: irq is IRQ_EN & (DONE | OVR); a W1C write of DONE and OVR lowers
it; and every completion, whatever its code, asserts it if IRQ_EN = 1. -/
def Obligations.IrqLevel : Prop :=
  (∀ s : State, irq s = true ↔ s.irqEn = true ∧ (s.status.done = true ∨ s.status.ovr = true)) ∧
  (∀ (s : State) (d : Word), d.getLsbD 1 = true → d.getLsbD 3 = true →
    ∃ t, exec (.busWrite 0x0000C d) s = .next t ∧ irq t = false) ∧
  (∀ s t : State, s.eng.state = .busy → s.engineNext → s.irqEn = true → step s = .next t → irq t = true)

/-- 20_memory.md R75(c), R76 with 40_bus_and_control.md R102: while BUSY, a host access leaves every input of the command in flight as it
was: nothing changes but IRQ_EN, OVR, the W1C bits and the host's record, unless the access is a soft reset, which ends BUSY. -/
def Obligations.InputsAreFrozenWhileBusy : Prop :=
  ∀ (s t : State) (size : Nat) (w : BusTxn) (rest : List Move), s.eng.state = .busy →
    s.host.pending = .access size w :: rest → step s = .next t →
    t = { s with
      irqEn := t.irqEn
      status := { s.status with done := t.status.done, err := t.status.err, ovr := t.status.ovr }
      host := t.host } ∨
    (t.eng.state = .idle ∧ ∃ d : Word, decodeBus w = .busWrite 0x00008 d ∧ d.getLsbD 1 = true)

/-! ## Completion -/

/-- 60_exceptions.md R164: every completion of a command sets DONE, writes ERRCODE and LAST_OP, sets ERR if the code is not OK and else
leaves it (it is sticky), makes the engine IDLE, and leaves IRQ_EN, OVR, the operand offsets and lengths, and the host's record. -/
def Obligations.CompletionRecordsOutcome : Prop :=
  ∀ (i : Instr) (op : Byte) (s t : State), i.opcode = some op → exec i s = .next t →
    t.status.done = true ∧ t.status.lastOp = op ∧
    t.status.err = (s.status.err || decide (t.status.errcode ≠ .ok)) ∧ t.status.ovr = s.status.ovr ∧
    t.eng = { s.eng with state := .idle } ∧ t.irqEn = s.irqEn ∧ t.cfg = s.cfg ∧ t.host = s.host ∧
    t.srcOff = s.srcOff ∧ t.srcLen = s.srcLen ∧ t.dstOff = s.dstOff ∧ t.keyOff = s.keyOff ∧ t.keyLen = s.keyLen ∧
    t.hdrOff = s.hdrOff

/-- 60_exceptions.md R165: a command that ends with a code other than OK changes no result register, no context and no MSGBUF byte; the
only status effects are HDR_VALID <- 0 of HDR_DECODE and FP_MATCH <- 0 of FP_VERIFY. -/
def Obligations.ErrorsArePrecise : Prop :=
  ∀ (i : Instr) (op : Byte) (s t : State), i.opcode = some op → exec i s = .next t → t.status.errcode ≠ .ok →
    t = State.failed op t.status.errcode { s with status := { s.status with
      hdrValid := if i = .hdrDecode then false else s.status.hdrValid
      fpMatch := if i = .fpVerify then false else s.status.fpMatch } }

/-- 10_state.md R21, R39-R43, R45, R46, R51 and 20_memory.md R65: which command may change which state. -/
def Obligations.OnlyNamedCommandsWrite : Prop :=
  ∀ (i : Instr) (op : Byte) (s t : State), i.opcode = some op → exec i s = .next t →
    (t.digest ≠ s.digest → i.writesDigest) ∧ (t.crcOut ≠ s.crcOut → i.writesCrcOut) ∧
    (t.hdrType ≠ s.hdrType → i = .hdrEncode ∨ i = .hdrDecode) ∧
    ((t.hdrClass ≠ s.hdrClass ∨ t.hdrMethod ≠ s.hdrMethod ∨ t.hdrLength ≠ s.hdrLength ∨ t.hdrCookie ≠ s.hdrCookie ∨
      t.txid0 ≠ s.txid0 ∨ t.txid1 ≠ s.txid1 ∨ t.txid2 ≠ s.txid2) → i = .hdrDecode) ∧
    ((t.xaFamily ≠ s.xaFamily ∨ t.xaPort ≠ s.xaPort ∨ t.xaAddr0 ≠ s.xaAddr0 ∨ t.xaAddr1 ≠ s.xaAddr1 ∨
      t.xaAddr2 ≠ s.xaAddr2 ∨ t.xaAddr3 ≠ s.xaAddr3) → i = .xaddrDecode) ∧
    (t.xaLen ≠ s.xaLen → i = .xaddrEncode ∨ i = .xaddrDecode) ∧
    (t.ctx1 ≠ s.ctx1 → i.usesCtx1) ∧ (t.ctx2 ≠ s.ctx2 → i.usesCtx2) ∧ (t.mem ≠ s.mem → i.writesMsgbuf) ∧
    (t.status.hdrValid ≠ s.status.hdrValid → i = .hdrDecode) ∧ (t.status.fpMatch ≠ s.status.fpMatch → i = .fpVerify)

/-- 10_state.md R30, R31, with R32: every completion, an illegal word's included, sets DONE, and one with another code than OK sets ERR;
once set, whatever the step, DONE, ERR and OVR are cleared only by a host write of 1 to them or a reset; a command may be issued while
DONE = 1, and issuing it does not clear DONE. -/
def Obligations.W1CBitsAreSticky : Prop :=
  (∀ s t : State, s.eng.state = .busy → s.engineNext → step s = .next t →
    t.status.done = true ∧ (t.status.errcode ≠ .ok → t.status.err = true)) ∧
  (∀ s t : State, step s = .next t → s.status.done = true → t.status.done = false →
    (∃ rest, s.host.pending = .powerOn :: rest) ∨
    (∃ rest w d, s.host.pending = .access 32 w :: rest ∧
      ((decodeBus w = .busWrite 0x0000C d ∧ d.getLsbD 1 = true) ∨ (decodeBus w = .busWrite 0x00008 d ∧ d.getLsbD 1 = true)))) ∧
  (∀ s t : State, step s = .next t → s.status.err = true → t.status.err = false →
    (∃ rest, s.host.pending = .powerOn :: rest) ∨
    (∃ rest w d, s.host.pending = .access 32 w :: rest ∧
      ((decodeBus w = .busWrite 0x0000C d ∧ d.getLsbD 2 = true) ∨ (decodeBus w = .busWrite 0x00008 d ∧ d.getLsbD 1 = true)))) ∧
  (∀ s t : State, step s = .next t → s.status.ovr = true → t.status.ovr = false →
    (∃ rest, s.host.pending = .powerOn :: rest) ∨
    (∃ rest w d, s.host.pending = .access 32 w :: rest ∧
      ((decodeBus w = .busWrite 0x0000C d ∧ d.getLsbD 3 = true) ∨ (decodeBus w = .busWrite 0x00008 d ∧ d.getLsbD 1 = true)))) ∧
  (∀ (s : State) (d : Word), s.eng.state = .idle → s.status.done = true →
    ∃ t, exec (.busWrite 0x00010 d) s = .next t ∧ t.eng = { state := .busy, cmd := d } ∧ t.status.done = true)

/-- 10_state.md R33: HDR_VALID is the outcome of the most recent HDR_DECODE: 1 if it succeeded, 0 if it failed with RANGE or one of the
header codes; and no step but a completion of HDR_DECODE, or a reset, changes it. -/
def Obligations.HdrValidIsLastDecodeOutcome : Prop :=
  (∀ s t : State, exec .hdrDecode s = .next t →
    (t.status.hdrValid = true ↔ t.status.errcode = .ok) ∧
    (t.status.hdrValid = false ↔ t.status.errcode ∈
      [ErrCode.range, .hdrShort, .hdrLeadingBits, .hdrLenAlign, .hdrLenMismatch, .hdrCookie])) ∧
  (∀ s t : State, step s = .next t → t.status.hdrValid ≠ s.status.hdrValid →
    (s.eng.state = .busy ∧ s.engineNext ∧ decode (.cmd s.eng.cmd) = .ok .hdrDecode) ∨
    (∃ rest, s.host.pending = .powerOn :: rest) ∨
    (∃ rest w d, s.host.pending = .access 32 w :: rest ∧ decodeBus w = .busWrite 0x00008 d ∧ d.getLsbD 1 = true))

/-- 40_bus_and_control.md R111: NOP completes and changes nothing but the common completion fields. -/
def Obligations.NopOnlyCompletes : Prop :=
  ∀ s : State, exec .nop s = .next (s.succeeded 0x00)

/-- 20_memory.md R72 and 40_bus_and_control.md R110: a source range with SRC_OFF + SRC_LEN > MSGBUF_SIZE, in integers, ends every command
that uses it with RANGE and no other effect; so does a key range of HMAC after a good source range, and a STORE destination after good
ranges of the command's own. -/
def Obligations.RangeErrorsStopCommands : Prop :=
  ∀ s : State,
    (s.cfg.msgbufSize < s.srcOff.toNat + s.srcLen.toNat →
      (∀ p ∈ ([(.sha1Update, 0x02), (.sha1 false, 0x04), (.sha1 true, 0x04), (.sha256Update, 0x06), (.sha256 false, 0x08),
          (.sha256 true, 0x08), (.hmacSha1 false, 0x09), (.hmacSha1 true, 0x09), (.hmacSha256 false, 0x0A),
          (.hmacSha256 true, 0x0A), (.crc32 false, 0x0B), (.crc32 true, 0x0B), (.fingerprint false, 0x0C),
          (.fingerprint true, 0x0C), (.xaddrDecode, 0x11)] : List (Instr × Byte)),
        exec p.1 s = .next (s.failed p.2 .range)) ∧
      exec .fpVerify s = .next (State.failed 0x0D .range { s with status := { s.status with fpMatch := false } }) ∧
      exec .hdrDecode s = .next (State.failed 0x0F .range { s with status := { s.status with hdrValid := false } })) ∧
    (s.srcOff.toNat + s.srcLen.toNat ≤ s.cfg.msgbufSize → s.cfg.msgbufSize < s.keyOff.toNat + s.keyLen.toNat →
      ∀ store, exec (.hmacSha1 store) s = .next (s.failed 0x09 .range) ∧
        exec (.hmacSha256 store) s = .next (s.failed 0x0A .range)) ∧
    (s.srcOff.toNat + s.srcLen.toNat ≤ s.cfg.msgbufSize →
      (s.cfg.msgbufSize < s.dstOff.toNat + 20 →
        exec (.sha1 true) s = .next (s.failed 0x04 .range) ∧
        (s.keyOff.toNat + s.keyLen.toNat ≤ s.cfg.msgbufSize → exec (.hmacSha1 true) s = .next (s.failed 0x09 .range))) ∧
      (s.cfg.msgbufSize < s.dstOff.toNat + 32 →
        exec (.sha256 true) s = .next (s.failed 0x08 .range) ∧
        (s.keyOff.toNat + s.keyLen.toNat ≤ s.cfg.msgbufSize → exec (.hmacSha256 true) s = .next (s.failed 0x0A .range))) ∧
      (s.cfg.msgbufSize < s.dstOff.toNat + 4 →
        exec (.crc32 true) s = .next (s.failed 0x0B .range) ∧ exec (.fingerprint true) s = .next (s.failed 0x0C .range)))

/-- 20_memory.md R73, with R65 and 40_bus_and_control.md R110: a read of an undefined byte is the model fault, for every command that reads
MSGBUF, once the checks its rule makes before the read pass: a byte of the source range (both UPDATEs, the one-shot hashes, HMAC, the CRC
family, HDR_DECODE's first 20), of the HMAC key range, of the XADDR key, of the family byte, of port and address; and for a host read of a
MSGBUF word. -/
def Obligations.UndefinedSourceByteFaults : Prop :=
  (∀ (s : State) (k : Nat), s.srcOff.toNat + s.srcLen.toNat ≤ s.cfg.msgbufSize →
    k < s.srcLen.toNat → Memory.read s.mem (s.srcOff.toNat + k) = none →
    (s.ctx1.valid = true → s.ctx1.n + s.srcLen.toNat ≤ 2 ^ 61 - 1 → exec .sha1Update s = .fault .undefinedByte) ∧
    (s.ctx2.valid = true → s.ctx2.n + s.srcLen.toNat ≤ 2 ^ 61 - 1 → exec .sha256Update s = .fault .undefinedByte) ∧
    (∀ store, (store = true → s.dstOff.toNat + 20 ≤ s.cfg.msgbufSize) → exec (.sha1 store) s = .fault .undefinedByte) ∧
    (∀ store, (store = true → s.dstOff.toNat + 32 ≤ s.cfg.msgbufSize) → exec (.sha256 store) s = .fault .undefinedByte) ∧
    (∀ store, (store = true → s.dstOff.toNat + 4 ≤ s.cfg.msgbufSize) →
      exec (.crc32 store) s = .fault .undefinedByte ∧ exec (.fingerprint store) s = .fault .undefinedByte) ∧
    (8 ≤ s.srcLen.toNat → exec .fpVerify s = .fault .undefinedByte) ∧
    (20 ≤ s.srcLen.toNat → k < 20 → exec .hdrDecode s = .fault .undefinedByte)) ∧
  (∀ (s : State) (k : Nat), s.srcOff.toNat + s.srcLen.toNat ≤ s.cfg.msgbufSize →
    s.keyOff.toNat + s.keyLen.toNat ≤ s.cfg.msgbufSize →
    (k < s.srcLen.toNat ∧ Memory.read s.mem (s.srcOff.toNat + k) = none) ∨
      (k < s.keyLen.toNat ∧ Memory.read s.mem (s.keyOff.toNat + k) = none) →
    (∀ store, (store = true → s.dstOff.toNat + 20 ≤ s.cfg.msgbufSize) → exec (.hmacSha1 store) s = .fault .undefinedByte) ∧
    (∀ store, (store = true → s.dstOff.toNat + 32 ≤ s.cfg.msgbufSize) → exec (.hmacSha256 store) s = .fault .undefinedByte)) ∧
  (∀ (s : State) (k n : Nat), (s.xaFamily = 1 ∧ n = 4) ∨ (s.xaFamily = 2 ∧ n = 16) →
    s.hdrOff.toNat + 4 + 16 ≤ s.cfg.msgbufSize → s.dstOff.toNat + 4 + n ≤ s.cfg.msgbufSize →
    k < 16 → Memory.read s.mem (s.hdrOff.toNat + 4 + k) = none → exec .xaddrEncode s = .fault .undefinedByte) ∧
  (∀ s : State, s.srcOff.toNat + s.srcLen.toNat ≤ s.cfg.msgbufSize → s.hdrOff.toNat + 4 + 16 ≤ s.cfg.msgbufSize →
    4 ≤ s.srcLen.toNat →
    (Memory.read s.mem (s.srcOff.toNat + 1) = none → exec .xaddrDecode s = .fault .undefinedByte) ∧
    (∀ (f : Byte) (k n : Nat), (f = 1 ∧ n = 4) ∨ (f = 2 ∧ n = 16) → Memory.read s.mem (s.srcOff.toNat + 1) = some f →
      s.srcLen.toNat = 4 + n →
      (k < 2 + n ∧ Memory.read s.mem (s.srcOff.toNat + 2 + k) = none) ∨
        (k < 16 ∧ Memory.read s.mem (s.hdrOff.toNat + 4 + k) = none) →
      exec .xaddrDecode s = .fault .undefinedByte)) ∧
  (∀ (s : State) (i k : Nat) (a : BusAddr), a.toNat = 0x10000 + 4 * i → 4 * i < s.cfg.msgbufSize → k < 4 →
    Memory.read s.mem (4 * i + k) = none → exec (.busRead a) s = .fault .undefinedByte)

/-! ## SHA-1 and SHA-256 -/

/-- 41_sha1.md R117, 42_sha256.md R130: the pipelines hold the FIPS 180-4 schedules. For the words W of R117's recurrence, at the start of
round t of SHA-1 w[j] = W_(t+j) for every j with t + j <= 79; for those of R130's, in SHA-256, for every j with t + j <= 63. -/
def Obligations.PipelinesAreSchedules : Prop :=
  (∀ (h : Words5) (block : List Byte) (W : Nat → Word),
    (∀ t, t < 16 → W t = be32 (slice block (4 * t) (4 * t + 4))) →
    (∀ t, 16 ≤ t → t ≤ 79 → W t = rotl 1 (W (t - 3) ^^^ W (t - 8) ^^^ W (t - 14) ^^^ W (t - 16))) →
    ∀ t j, j < 16 → t + j ≤ 79 → pipeWord (sha1Rounds t (sha1Start h block)).w j = W (t + j)) ∧
  (∀ (h : Words8) (block : List Byte) (W : Nat → Word),
    (∀ t, t < 16 → W t = be32 (slice block (4 * t) (4 * t + 4))) →
    (∀ t, 16 ≤ t → t ≤ 63 → W t = smallSigma1 (W (t - 2)) + W (t - 7) + smallSigma0 (W (t - 15)) + W (t - 16)) →
    ∀ t j, j < 16 → t + j ≤ 63 → pipeWord (sha256Rounds t (sha256Start h block)).w j = W (t + j))

/-- 41_sha1.md R118, R119, 42_sha256.md R131, R132: the hash of M is the compression of the 64-byte blocks of
M ‖ 0x80 ‖ 0x00^k ‖ bytes64(8|M|), with k the least that makes the length a multiple of 64, over any compression function. -/
def Obligations.HashIsPaddedBlocks : Prop :=
  ∀ (σ : Type) (compress : σ → List Byte → σ) (iv : σ) (m : List Byte) (k : Nat), k < 64 → (m.length + 1 + k + 8) % 64 = 0 →
    hashWords compress iv m =
      compressBlocks compress iv (m ++ [0x80] ++ List.replicate k 0 ++ bytes64 (8 * m.length)) ((m.length + 1 + k + 8) / 64)

/-- 41_sha1.md R120, 42_sha256.md R133: INIT starts or restarts its context with the initial hash value, an empty buffer and n = 0, and
changes nothing else. -/
def Obligations.InitStartsStream : Prop :=
  ∀ s : State,
    exec .sha1Init s = .next { s.succeeded 0x01 with
      ctx1 := { H := ⟨0x67452301, 0xEFCDAB89, 0x98BADCFE, 0x10325476, 0xC3D2E1F0⟩, buf := [], n := 0, valid := true } } ∧
    exec .sha256Init s = .next { s.succeeded 0x05 with
      ctx2 := { H := ⟨0x6A09E667, 0xBB67AE85, 0x3C6EF372, 0xA54FF53A, 0x510E527F, 0x9B05688C, 0x1F83D9AB, 0x5BE0CD19⟩,
                buf := [], n := 0, valid := true } }

/-- 41_sha1.md R118, R121, 42_sha256.md R131, R134: an UPDATE of an open stream over a defined range adds its bytes to its context and
changes nothing else: n grows by SRC_LEN, the stream stays open, the buffer keeps what n leaves over whole blocks, and chaining words and
buffer are those that the bytes, one at a time, give. -/
def Obligations.UpdateAbsorbsRange : Prop :=
  ∀ (s : State) (m : List Byte), s.srcOff.toNat + s.srcLen.toNat ≤ s.cfg.msgbufSize →
    m.length = s.srcLen.toNat → Memory.holds s.mem s.srcOff.toNat m →
    (s.ctx1.valid = true → s.ctx1.n + s.srcLen.toNat ≤ 2 ^ 61 - 1 →
      ∃ t, exec .sha1Update s = .next t ∧ t = { s.succeeded 0x02 with ctx1 := t.ctx1 } ∧
        t.ctx1 = absorb compress1 s.ctx1 m ∧ t.ctx1.n = s.ctx1.n + s.srcLen.toNat ∧ t.ctx1.valid = true ∧
        (s.ctx1.buf.length = s.ctx1.n % 64 → t.ctx1.buf.length = t.ctx1.n % 64)) ∧
    (s.ctx2.valid = true → s.ctx2.n + s.srcLen.toNat ≤ 2 ^ 61 - 1 →
      ∃ t, exec .sha256Update s = .next t ∧ t = { s.succeeded 0x06 with ctx2 := t.ctx2 } ∧
        t.ctx2 = absorb compress2 s.ctx2 m ∧ t.ctx2.n = s.ctx2.n + s.srcLen.toNat ∧ t.ctx2.valid = true ∧
        (s.ctx2.buf.length = s.ctx2.n % 64 → t.ctx2.buf.length = t.ctx2.n % 64))

/-- 41_sha1.md R121, R122, 42_sha256.md R134, R135, 40_bus_and_control.md R110: the errors of the streaming commands in their order, RANGE,
SEQ, TOO_LONG for UPDATE and RANGE of a STORE destination, then SEQ, for FINAL; each leaves the context as it was. -/
def Obligations.StreamErrorsInOrder : Prop :=
  ∀ s : State,
    (s.cfg.msgbufSize < s.srcOff.toNat + s.srcLen.toNat →
      exec .sha1Update s = .next (s.failed 0x02 .range) ∧ exec .sha256Update s = .next (s.failed 0x06 .range)) ∧
    (s.srcOff.toNat + s.srcLen.toNat ≤ s.cfg.msgbufSize →
      (s.ctx1.valid = false → exec .sha1Update s = .next (s.failed 0x02 .seq)) ∧
      (s.ctx2.valid = false → exec .sha256Update s = .next (s.failed 0x06 .seq)) ∧
      (s.ctx1.valid = true → 2 ^ 61 - 1 < s.ctx1.n + s.srcLen.toNat → exec .sha1Update s = .next (s.failed 0x02 .tooLong)) ∧
      (s.ctx2.valid = true → 2 ^ 61 - 1 < s.ctx2.n + s.srcLen.toNat → exec .sha256Update s = .next (s.failed 0x06 .tooLong))) ∧
    (s.cfg.msgbufSize < s.dstOff.toNat + 20 → exec (.sha1Final true) s = .next (s.failed 0x03 .range)) ∧
    (s.cfg.msgbufSize < s.dstOff.toNat + 32 → exec (.sha256Final true) s = .next (s.failed 0x07 .range)) ∧
    (s.ctx1.valid = false → exec (.sha1Final false) s = .next (s.failed 0x03 .seq) ∧
      (s.dstOff.toNat + 20 ≤ s.cfg.msgbufSize → exec (.sha1Final true) s = .next (s.failed 0x03 .seq))) ∧
    (s.ctx2.valid = false → exec (.sha256Final false) s = .next (s.failed 0x07 .seq) ∧
      (s.dstOff.toNat + 32 ≤ s.cfg.msgbufSize → exec (.sha256Final true) s = .next (s.failed 0x07 .seq)))

/-- 41_sha1.md R122, R119, R112: SHA1_FINAL of an open stream puts the final chaining words in DIGEST0..4 and 0 in DIGEST5..7, clears ctx1,
with STORE writes the 20 digest bytes at DST_OFF and no other byte, and changes nothing else. -/
def Obligations.Sha1FinalReportsDigest : Prop :=
  ∀ (s : State) (store : Bool) (h : Words5), s.ctx1.valid = true →
    (store = true → s.dstOff.toNat + 20 ≤ s.cfg.msgbufSize) → h = finalizeHash compress1 s.ctx1.H s.ctx1.buf s.ctx1.n →
    ∃ t, exec (.sha1Final store) s = .next t ∧
      t = { s.succeeded 0x03 with
        digest := ⟨h.w0, h.w1, h.w2, h.w3, h.w4, 0, 0, 0⟩
        ctx1 := { H := ⟨0, 0, 0, 0, 0⟩, buf := [], n := 0, valid := false }
        mem := t.mem } ∧
      Memory.afterStore t.mem s.mem store s.dstOff.toNat
        (bytes32 h.w0 ++ bytes32 h.w1 ++ bytes32 h.w2 ++ bytes32 h.w3 ++ bytes32 h.w4)

/-- 42_sha256.md R135, R132: the same of SHA256_FINAL, with eight words and 32 bytes. -/
def Obligations.Sha256FinalReportsDigest : Prop :=
  ∀ (s : State) (store : Bool) (h : Words8), s.ctx2.valid = true →
    (store = true → s.dstOff.toNat + 32 ≤ s.cfg.msgbufSize) → h = finalizeHash compress2 s.ctx2.H s.ctx2.buf s.ctx2.n →
    ∃ t, exec (.sha256Final store) s = .next t ∧
      t = { s.succeeded 0x07 with
        digest := h
        ctx2 := { H := ⟨0, 0, 0, 0, 0, 0, 0, 0⟩, buf := [], n := 0, valid := false }
        mem := t.mem } ∧
      Memory.afterStore t.mem s.mem store s.dstOff.toNat
        (bytes32 h.w0 ++ bytes32 h.w1 ++ bytes32 h.w2 ++ bytes32 h.w3 ++
          bytes32 h.w4 ++ bytes32 h.w5 ++ bytes32 h.w6 ++ bytes32 h.w7)

/-- 41_sha1.md R123: one-shot SHA-1 of a defined range: DIGEST0..4 hold the hash words, DIGEST5..7 are 0, STORE writes the 20 digest bytes
at DST_OFF and no other byte, and nothing else changes; ctx1 is untouched. -/
def Obligations.Sha1OneShotResult : Prop :=
  ∀ (s : State) (store : Bool) (m : List Byte) (h : Words5), s.srcOff.toNat + s.srcLen.toNat ≤ s.cfg.msgbufSize →
    (store = true → s.dstOff.toNat + 20 ≤ s.cfg.msgbufSize) →
    m.length = s.srcLen.toNat → Memory.holds s.mem s.srcOff.toNat m → h = hashWords compress1 sha1IV m →
    ∃ t, exec (.sha1 store) s = .next t ∧
      t = { s.succeeded 0x04 with digest := ⟨h.w0, h.w1, h.w2, h.w3, h.w4, 0, 0, 0⟩, mem := t.mem } ∧
      Memory.afterStore t.mem s.mem store s.dstOff.toNat
        (bytes32 h.w0 ++ bytes32 h.w1 ++ bytes32 h.w2 ++ bytes32 h.w3 ++ bytes32 h.w4)

/-- 42_sha256.md R136: one-shot SHA-256 of a defined range, likewise with eight words and 32 bytes. -/
def Obligations.Sha256OneShotResult : Prop :=
  ∀ (s : State) (store : Bool) (m : List Byte) (h : Words8), s.srcOff.toNat + s.srcLen.toNat ≤ s.cfg.msgbufSize →
    (store = true → s.dstOff.toNat + 32 ≤ s.cfg.msgbufSize) →
    m.length = s.srcLen.toNat → Memory.holds s.mem s.srcOff.toNat m → h = hashWords compress2 sha256IV m →
    ∃ t, exec (.sha256 store) s = .next t ∧
      t = { s.succeeded 0x08 with digest := h, mem := t.mem } ∧
      Memory.afterStore t.mem s.mem store s.dstOff.toNat
        (bytes32 h.w0 ++ bytes32 h.w1 ++ bytes32 h.w2 ++ bytes32 h.w3 ++
          bytes32 h.w4 ++ bytes32 h.w5 ++ bytes32 h.w6 ++ bytes32 h.w7)

/-- 41_sha1.md R120-R122, 42_sha256.md R133-R135: a stream opened by INIT, fed A and then B by two successful UPDATEs, and closed by a
successful FINAL, whatever else happens between them that leaves its context, reports the one-shot digest of A ‖ B: chunk boundaries do
not matter. -/
def Obligations.StreamedHashIsOneShot : Prop :=
  (∀ (s0 s1 u1 t1 u2 t2 u3 t3 : State) (a b : List Byte) (store : Bool),
    exec .sha1Init s0 = .next s1 →
    u1.ctx1 = s1.ctx1 → a.length = u1.srcLen.toNat → Memory.holds u1.mem u1.srcOff.toNat a →
    exec .sha1Update u1 = .next t1 → t1.status.errcode = .ok →
    u2.ctx1 = t1.ctx1 → b.length = u2.srcLen.toNat → Memory.holds u2.mem u2.srcOff.toNat b →
    exec .sha1Update u2 = .next t2 → t2.status.errcode = .ok →
    u3.ctx1 = t2.ctx1 → exec (.sha1Final store) u3 = .next t3 → t3.status.errcode = .ok →
    t3.digest = digestRegs5 (sha1Digest (a ++ b)) ∧ t3.ctx1.valid = false) ∧
  (∀ (s0 s1 u1 t1 u2 t2 u3 t3 : State) (a b : List Byte) (store : Bool),
    exec .sha256Init s0 = .next s1 →
    u1.ctx2 = s1.ctx2 → a.length = u1.srcLen.toNat → Memory.holds u1.mem u1.srcOff.toNat a →
    exec .sha256Update u1 = .next t1 → t1.status.errcode = .ok →
    u2.ctx2 = t1.ctx2 → b.length = u2.srcLen.toNat → Memory.holds u2.mem u2.srcOff.toNat b →
    exec .sha256Update u2 = .next t2 → t2.status.errcode = .ok →
    u3.ctx2 = t2.ctx2 → exec (.sha256Final store) u3 = .next t3 → t3.status.errcode = .ok →
    t3.digest = digestRegs8 (sha256Digest (a ++ b)) ∧ t3.ctx2.valid = false)

/-- 70_reset_and_hazards.md R193: the streams persist. A step that changes ctx1 is the completion of SHA1_INIT, SHA1_UPDATE or SHA1_FINAL,
or a reset; a step that changes ctx2 is the completion of one of the three SHA-256 streaming commands, or a reset. -/
def Obligations.StreamsPersist : Prop :=
  ∀ s t : State, step s = .next t →
    (t.ctx1 ≠ s.ctx1 →
      (∃ i, s.eng.state = .busy ∧ s.engineNext ∧ decode (.cmd s.eng.cmd) = .ok i ∧ i.usesCtx1) ∨
      (∃ rest, s.host.pending = .powerOn :: rest) ∨
      (∃ rest w d, s.host.pending = .access 32 w :: rest ∧ decodeBus w = .busWrite 0x00008 d ∧ d.getLsbD 1 = true)) ∧
    (t.ctx2 ≠ s.ctx2 →
      (∃ i, s.eng.state = .busy ∧ s.engineNext ∧ decode (.cmd s.eng.cmd) = .ok i ∧ i.usesCtx2) ∨
      (∃ rest, s.host.pending = .powerOn :: rest) ∨
      (∃ rest w d, s.host.pending = .access 32 w :: rest ∧ decodeBus w = .busWrite 0x00008 d ∧ d.getLsbD 1 = true))

/-! ## HMAC -/

/-- 43_hmac.md R138-R140: HMAC-SHA1 of a defined message range under a defined key range: with K0 the prepared key (hashed first if longer
than 64 bytes), the digest is SHA1((K0 ⊕ 0x5C^64) ‖ SHA1((K0 ⊕ 0x36^64) ‖ M)), in DIGEST0..4 with DIGEST5..7 = 0, stored with STORE;
nothing else changes. -/
def Obligations.HmacSha1Result : Prop :=
  ∀ (s : State) (store : Bool) (m kb k0 : List Byte) (h : Words5),
    s.srcOff.toNat + s.srcLen.toNat ≤ s.cfg.msgbufSize → s.keyOff.toNat + s.keyLen.toNat ≤ s.cfg.msgbufSize →
    (store = true → s.dstOff.toNat + 20 ≤ s.cfg.msgbufSize) →
    m.length = s.srcLen.toNat → Memory.holds s.mem s.srcOff.toNat m →
    kb.length = s.keyLen.toNat → Memory.holds s.mem s.keyOff.toNat kb →
    k0 = (if 64 < kb.length then sha1Digest kb ++ List.replicate 44 0 else kb ++ List.replicate (64 - kb.length) 0) →
    h = hashWords compress1 sha1IV (k0.map (· ^^^ 0x5C) ++ sha1Digest (k0.map (· ^^^ 0x36) ++ m)) →
    ∃ t, exec (.hmacSha1 store) s = .next t ∧
      t = { s.succeeded 0x09 with digest := ⟨h.w0, h.w1, h.w2, h.w3, h.w4, 0, 0, 0⟩, mem := t.mem } ∧
      Memory.afterStore t.mem s.mem store s.dstOff.toNat
        (bytes32 h.w0 ++ bytes32 h.w1 ++ bytes32 h.w2 ++ bytes32 h.w3 ++ bytes32 h.w4)

/-- 43_hmac.md R138, R139, R141: the same of HMAC-SHA256. -/
def Obligations.HmacSha256Result : Prop :=
  ∀ (s : State) (store : Bool) (m kb k0 : List Byte) (h : Words8),
    s.srcOff.toNat + s.srcLen.toNat ≤ s.cfg.msgbufSize → s.keyOff.toNat + s.keyLen.toNat ≤ s.cfg.msgbufSize →
    (store = true → s.dstOff.toNat + 32 ≤ s.cfg.msgbufSize) →
    m.length = s.srcLen.toNat → Memory.holds s.mem s.srcOff.toNat m →
    kb.length = s.keyLen.toNat → Memory.holds s.mem s.keyOff.toNat kb →
    k0 = (if 64 < kb.length then sha256Digest kb ++ List.replicate 32 0 else kb ++ List.replicate (64 - kb.length) 0) →
    h = hashWords compress2 sha256IV (k0.map (· ^^^ 0x5C) ++ sha256Digest (k0.map (· ^^^ 0x36) ++ m)) →
    ∃ t, exec (.hmacSha256 store) s = .next t ∧
      t = { s.succeeded 0x0A with digest := h, mem := t.mem } ∧
      Memory.afterStore t.mem s.mem store s.dstOff.toNat
        (bytes32 h.w0 ++ bytes32 h.w1 ++ bytes32 h.w2 ++ bytes32 h.w3 ++
          bytes32 h.w4 ++ bytes32 h.w5 ++ bytes32 h.w6 ++ bytes32 h.w7)

/-! ## CRC32 and FINGERPRINT -/

/-- 46_crc32.md R158-R160: CRC32 puts crc32(M), FINGERPRINT crc32(M) ^ 0x5354554E, of a defined range in CRC_OUT; STORE writes its four
bytes, big-endian, at DST_OFF and no other byte; nothing else changes. -/
def Obligations.CrcCommandsResult : Prop :=
  ∀ (s : State) (store : Bool) (m : List Byte), s.srcOff.toNat + s.srcLen.toNat ≤ s.cfg.msgbufSize →
    (store = true → s.dstOff.toNat + 4 ≤ s.cfg.msgbufSize) → m.length = s.srcLen.toNat →
    Memory.holds s.mem s.srcOff.toNat m →
    (∃ t, exec (.crc32 store) s = .next t ∧ t = { s.succeeded 0x0B with crcOut := crc32 m, mem := t.mem } ∧
      Memory.afterStore t.mem s.mem store s.dstOff.toNat (bytes32 (crc32 m))) ∧
    (∃ t, exec (.fingerprint store) s = .next t ∧
      t = { s.succeeded 0x0C with crcOut := crc32 m ^^^ 0x5354554E, mem := t.mem } ∧
      Memory.afterStore t.mem s.mem store s.dstOff.toNat (bytes32 (crc32 m ^^^ 0x5354554E)))

/-- 46_crc32.md R161: FP_VERIFY of a defined message body ‖ tl ‖ stored, with tl and stored four bytes each: CRC_OUT is the FINGERPRINT of
body, FP_MATCH is 1 iff tl is 80 28 00 04 and stored is that value; a mismatch is no error; nothing else changes. A range shorter than
8 bytes is FP_SHORT with FP_MATCH = 0. -/
def Obligations.FpVerifyResult : Prop :=
  ∀ s : State, s.srcOff.toNat + s.srcLen.toNat ≤ s.cfg.msgbufSize →
    (∀ body tl stored : List Byte, tl.length = 4 → stored.length = 4 → body.length + 8 = s.srcLen.toNat →
      Memory.holds s.mem s.srcOff.toNat (body ++ tl ++ stored) →
      exec .fpVerify s = .next { s with
        crcOut := crc32 body ^^^ 0x5354554E
        status := { s.status with
          done := true, errcode := .ok, lastOp := 0x0D
          fpMatch := decide (tl = [0x80, 0x28, 0x00, 0x04] ∧ be32 stored = crc32 body ^^^ 0x5354554E) }
        eng := { s.eng with state := .idle } }) ∧
    (s.srcLen.toNat < 8 →
      exec .fpVerify s = .next (State.failed 0x0D .fpShort { s with status := { s.status with fpMatch := false } }))

/-- 46_crc32.md R162, first half: after FINGERPRINT with STORE writes the trailer of a message whose attribute type and length stand at p,
FP_VERIFY over the whole message gives FP_MATCH = 1. -/
def Obligations.FreshFingerprintVerifies : Prop :=
  ∀ (s t u v : State) (body : List Byte), body.length = s.srcLen.toNat → Memory.holds s.mem s.srcOff.toNat body →
    exec (.fingerprint true) s = .next t → t.status.errcode = .ok →
    s.dstOff.toNat = s.srcOff.toNat + s.srcLen.toNat + 4 →
    Memory.holds s.mem (s.srcOff.toNat + s.srcLen.toNat) [0x80, 0x28, 0x00, 0x04] →
    u.cfg = t.cfg → u.mem = t.mem → u.srcOff = s.srcOff → u.srcLen.toNat = s.srcLen.toNat + 8 →
    exec .fpVerify u = .next v → v.status.errcode = .ok ∧ v.status.fpMatch = true ∧ v.crcOut = t.crcOut

/-- 46_crc32.md R162, second half: after any single byte of a message that FP_VERIFY matches is changed, FP_VERIFY gives FP_MATCH = 0. -/
def Obligations.ChangedByteFailsVerification : Prop :=
  ∀ (s u v w : State) (m : List Byte) (i : Nat) (e : Byte), m.length = s.srcLen.toNat → Memory.holds s.mem s.srcOff.toNat m →
    exec .fpVerify s = .next v → v.status.fpMatch = true →
    i < m.length → e ≠ 0 → u.srcOff = s.srcOff → u.srcLen = s.srcLen →
    Memory.holds u.mem u.srcOff.toNat (m.set i (byteAt m i ^^^ e)) →
    exec .fpVerify u = .next w → w.status.fpMatch = false

/-! ## STUN header -/

/-- 44_stun_header.md R146, R147, 30_encoding.md R96: HDR_ENCODE with a destination in range writes the 20 header bytes at DST_OFF and no
other byte, with type = 0x3FFF & (HDR_CLASS | HDR_METHOD), sets HDR_TYPE, and changes nothing else, whatever the values; out of range it
is RANGE. -/
def Obligations.HdrEncodeResult : Prop :=
  ∀ (s : State) (type : Half), type = 0x3FFF &&& (s.hdrClass ||| s.hdrMethod) →
    (s.dstOff.toNat + 20 ≤ s.cfg.msgbufSize →
      ∃ t, exec .hdrEncode s = .next t ∧ t = { s.succeeded 0x0E with hdrType := type, mem := t.mem } ∧
        Memory.afterStore t.mem s.mem true s.dstOff.toNat
          (bytes16 type ++ bytes16 s.hdrLength ++ [0x21, 0x12, 0xA4, 0x42] ++
            bytes32 s.txid0 ++ bytes32 s.txid1 ++ bytes32 s.txid2)) ∧
    (s.cfg.msgbufSize < s.dstOff.toNat + 20 → exec .hdrEncode s = .next (s.failed 0x0E .range))

/-- 44_stun_header.md R148, R150: HDR_DECODE of a valid header h, type[15:14] = 0, length a multiple of 4 with 20 + length = SRC_LEN, and
the cookie in place, writes the header registers and HDR_VALID = 1, and changes nothing else; bytes 20.. need not be defined. -/
def Obligations.HdrDecodeResult : Prop :=
  ∀ (s : State) (h : List Byte) (type len : Half), s.srcOff.toNat + s.srcLen.toNat ≤ s.cfg.msgbufSize →
    h.length = 20 → Memory.holds s.mem s.srcOff.toNat h → type = be16 (slice h 0 2) → len = be16 (slice h 2 4) →
    type.toNat < 0x4000 → len.toNat % 4 = 0 → 20 + len.toNat = s.srcLen.toNat → slice h 4 8 = [0x21, 0x12, 0xA4, 0x42] →
    exec .hdrDecode s = .next { s with
      hdrType := type
      hdrClass := type &&& 0x0110
      hdrMethod := type &&& 0x3EEF
      hdrLength := len
      hdrCookie := 0x2112A442
      txid0 := be32 (slice h 8 12)
      txid1 := be32 (slice h 12 16)
      txid2 := be32 (slice h 16 20)
      status := { s.status with done := true, errcode := .ok, lastOp := 0x0F, hdrValid := true }
      eng := { s.eng with state := .idle } }

/-- 44_stun_header.md R149: the checks of HDR_DECODE in their order, each with its code, after the range check; every failure sets HDR_VALID
to 0 and changes nothing but the completion fields. -/
def Obligations.HdrDecodeValidationOrder : Prop :=
  ∀ (s z : State), z = { s with status := { s.status with hdrValid := false } } →
    s.srcOff.toNat + s.srcLen.toNat ≤ s.cfg.msgbufSize →
    (s.srcLen.toNat < 20 → exec .hdrDecode s = .next (z.failed 0x0F .hdrShort)) ∧
    (20 ≤ s.srcLen.toNat → ∀ (h : List Byte) (type len : Half), h.length = 20 → Memory.holds s.mem s.srcOff.toNat h →
      type = be16 (slice h 0 2) → len = be16 (slice h 2 4) →
      (0x4000 ≤ type.toNat → exec .hdrDecode s = .next (z.failed 0x0F .hdrLeadingBits)) ∧
      (type.toNat < 0x4000 → len.toNat % 4 ≠ 0 → exec .hdrDecode s = .next (z.failed 0x0F .hdrLenAlign)) ∧
      (type.toNat < 0x4000 → len.toNat % 4 = 0 → 20 + len.toNat ≠ s.srcLen.toNat →
        exec .hdrDecode s = .next (z.failed 0x0F .hdrLenMismatch)) ∧
      (type.toNat < 0x4000 → len.toNat % 4 = 0 → 20 + len.toNat = s.srcLen.toNat → be32 (slice h 4 8) ≠ 0x2112A442 →
        exec .hdrDecode s = .next (z.failed 0x0F .hdrCookie)))

/-- 44_stun_header.md R151, items 1 and 2: a successful decode has SRC_LEN = 20 + HDR_LENGTH, a multiple of 4, leading bits 0 and the magic
cookie; and a header that HDR_ENCODE wrote from legal class C, method M, length L and transaction id, with its 20 bytes unchanged, decodes
over 20 + L bytes to exactly those values with HDR_TYPE = C | M; for other C, M the decode gives (C | M) & 0x0110 and (C | M) & 0x3EEF. -/
def Obligations.HeaderRoundTrip : Prop :=
  (∀ s t : State, exec .hdrDecode s = .next t → t.status.errcode = .ok →
    s.srcLen.toNat = 20 + t.hdrLength.toNat ∧ s.srcLen.toNat % 4 = 0 ∧ t.hdrType.extractLsb' 14 2 = 0 ∧
      t.hdrCookie = 0x2112A442) ∧
  (∀ s t u : State, exec .hdrEncode s = .next t → t.status.errcode = .ok → s.hdrLength.toNat % 4 = 0 →
    u.srcOff = s.dstOff → u.srcLen.toNat = 20 + s.hdrLength.toNat →
    u.srcOff.toNat + u.srcLen.toNat ≤ u.cfg.msgbufSize →
    (∀ i, i < 20 → Memory.read u.mem (s.dstOff.toNat + i) = Memory.read t.mem (s.dstOff.toNat + i)) →
    ∃ v, exec .hdrDecode u = .next v ∧ v.status.errcode = .ok ∧ v.status.hdrValid = true ∧
      v.hdrType = 0x3FFF &&& (s.hdrClass ||| s.hdrMethod) ∧ v.hdrLength = s.hdrLength ∧
      v.hdrClass = (s.hdrClass ||| s.hdrMethod) &&& 0x0110 ∧ v.hdrMethod = (s.hdrClass ||| s.hdrMethod) &&& 0x3EEF ∧
      v.txid0 = s.txid0 ∧ v.txid1 = s.txid1 ∧ v.txid2 = s.txid2 ∧
      (s.hdrClass &&& ~~~0x0110 = 0 → s.hdrMethod &&& ~~~0x3EEF = 0 →
        v.hdrClass = s.hdrClass ∧ v.hdrMethod = s.hdrMethod ∧ v.hdrType = s.hdrClass ||| s.hdrMethod))

/-! ## XOR address -/

/-- 45_xor_address.md R152-R154: XADDR_ENCODE of a known family with the key and the destination in range and the 16 key bytes defined
writes 0x00, the family, the port XOR the first two key bytes, and the address XOR the first n key bytes, at DST_OFF and no other byte,
sets XA_LEN to 8 or 20, and changes nothing else. -/
def Obligations.XaddrEncodeResult : Prop :=
  ∀ (s : State) (k addr : List Byte) (n : Nat),
    ((s.xaFamily = 1 ∧ n = 4 ∧ addr = bytes32 s.xaAddr0) ∨
      (s.xaFamily = 2 ∧ n = 16 ∧ addr = bytes32 s.xaAddr0 ++ bytes32 s.xaAddr1 ++ bytes32 s.xaAddr2 ++ bytes32 s.xaAddr3)) →
    s.hdrOff.toNat + 4 + 16 ≤ s.cfg.msgbufSize → s.dstOff.toNat + 4 + n ≤ s.cfg.msgbufSize →
    k.length = 16 → Memory.holds s.mem (s.hdrOff.toNat + 4) k →
    ∃ t, exec .xaddrEncode s = .next t ∧ t = { s.succeeded 0x10 with xaLen := BitVec.ofNat 8 (4 + n), mem := t.mem } ∧
      Memory.afterStore t.mem s.mem true s.dstOff.toNat
        ([0x00, s.xaFamily] ++ bytes16 (s.xaPort ^^^ be16 (k.take 2)) ++ List.zipWith (· ^^^ ·) addr (k.take n))

/-- 45_xor_address.md R155: XADDR_DECODE of a defined value of the family's length writes the family, the port and the address with the
key taken off, XA_LEN, and 0 in XA_ADDR1..3 for IPv4, and changes nothing else; the reserved byte need not be defined. -/
def Obligations.XaddrDecodeResult : Prop :=
  ∀ (s : State) (f : Byte) (v k a : List Byte) (n : Nat), ((f = 1 ∧ n = 4) ∨ (f = 2 ∧ n = 16)) →
    s.srcOff.toNat + s.srcLen.toNat ≤ s.cfg.msgbufSize → s.hdrOff.toNat + 4 + 16 ≤ s.cfg.msgbufSize →
    s.srcLen.toNat = 4 + n → v.length = 2 + n → k.length = 16 →
    Memory.holds s.mem (s.srcOff.toNat + 1) ([f] ++ v) → Memory.holds s.mem (s.hdrOff.toNat + 4) k →
    a = List.zipWith (· ^^^ ·) (v.drop 2) (k.take n) →
    exec .xaddrDecode s = .next { s.succeeded 0x11 with
      xaFamily := f
      xaPort := be16 (v.take 2) ^^^ be16 (k.take 2)
      xaLen := BitVec.ofNat 8 (4 + n)
      xaAddr0 := wordAt a 0
      xaAddr1 := if f = 2 then wordAt a 1 else 0
      xaAddr2 := if f = 2 then wordAt a 2 else 0
      xaAddr3 := if f = 2 then wordAt a 3 else 0 }

/-- 45_xor_address.md R154, R155, 40_bus_and_control.md R110: the errors of the XADDR commands in their order. Encode: the family before every
range, then the key's range, then the destination's. Decode: the source's range, the key's, a value shorter than 4, the family byte, a
length that is not the family's. -/
def Obligations.XaddrErrorsInOrder : Prop :=
  ∀ s : State,
    (s.xaFamily ≠ 1 → s.xaFamily ≠ 2 → exec .xaddrEncode s = .next (s.failed 0x10 .xaFamily)) ∧
    (s.xaFamily = 1 ∨ s.xaFamily = 2 →
      (s.cfg.msgbufSize < s.hdrOff.toNat + 20 → exec .xaddrEncode s = .next (s.failed 0x10 .range)) ∧
      (s.hdrOff.toNat + 20 ≤ s.cfg.msgbufSize →
        s.cfg.msgbufSize < s.dstOff.toNat + (if s.xaFamily = 1 then 8 else 20) →
        exec .xaddrEncode s = .next (s.failed 0x10 .range))) ∧
    (s.srcOff.toNat + s.srcLen.toNat ≤ s.cfg.msgbufSize →
      (s.cfg.msgbufSize < s.hdrOff.toNat + 20 → exec .xaddrDecode s = .next (s.failed 0x11 .range)) ∧
      (s.hdrOff.toNat + 20 ≤ s.cfg.msgbufSize →
        (s.srcLen.toNat < 4 → exec .xaddrDecode s = .next (s.failed 0x11 .xaLength)) ∧
        (4 ≤ s.srcLen.toNat → ∀ f : Byte, Memory.read s.mem (s.srcOff.toNat + 1) = some f →
          (f ≠ 1 → f ≠ 2 → exec .xaddrDecode s = .next (s.failed 0x11 .xaFamily)) ∧
          ((f = 1 ∧ s.srcLen.toNat ≠ 8) ∨ (f = 2 ∧ s.srcLen.toNat ≠ 20) →
            exec .xaddrDecode s = .next (s.failed 0x11 .xaLength)))))

/-- 45_xor_address.md R156: what XADDR_ENCODE wrote, with the key and the value unchanged in between, XADDR_DECODE over XA_LEN bytes gives
back: the same family, port and address words, for both families and every key. -/
def Obligations.XorAddressRoundTrip : Prop :=
  ∀ s t u : State, exec .xaddrEncode s = .next t → t.status.errcode = .ok →
    u.cfg = s.cfg → u.hdrOff = s.hdrOff → u.srcOff = s.dstOff → u.srcLen = t.xaLen.setWidth 32 →
    (∀ i, i < 16 → Memory.read u.mem (s.hdrOff.toNat + 4 + i) = Memory.read s.mem (s.hdrOff.toNat + 4 + i)) →
    (∀ i, i < t.xaLen.toNat → Memory.read u.mem (s.dstOff.toNat + i) = Memory.read t.mem (s.dstOff.toNat + i)) →
    ∃ v, exec .xaddrDecode u = .next v ∧ v.status.errcode = .ok ∧ v.xaFamily = s.xaFamily ∧ v.xaPort = s.xaPort ∧
      v.xaAddr0 = s.xaAddr0 ∧
      (s.xaFamily = 2 → v.xaAddr1 = s.xaAddr1 ∧ v.xaAddr2 = s.xaAddr2 ∧ v.xaAddr3 = s.xaAddr3) ∧
      (s.xaFamily = 1 → v.xaAddr1 = 0 ∧ v.xaAddr2 = 0 ∧ v.xaAddr3 = 0)
end

