-- ==== Sys2Proof/Laws/State.lean ====
section
/-! SUPPORT. One lemma per field of State per update, each true by rfl (by cases on STORE for its write) and tagged for simp, so that no later proof unfolds an update. -/

namespace Sys2Proof.Machine

/-! ## complete -/

@[simp] theorem complete_cfg (op : Byte) (code : ErrCode) (s : State) : (complete op code s).cfg = s.cfg := rfl
@[simp] theorem complete_irqEn (op : Byte) (code : ErrCode) (s : State) : (complete op code s).irqEn = s.irqEn := rfl
@[simp] theorem complete_status (op : Byte) (code : ErrCode) (s : State) : (complete op code s).status = { s.status with done := true, err := s.status.err || decide (code ≠ .ok), errcode := code, lastOp := op } := rfl
@[simp] theorem complete_srcOff (op : Byte) (code : ErrCode) (s : State) : (complete op code s).srcOff = s.srcOff := rfl
@[simp] theorem complete_srcLen (op : Byte) (code : ErrCode) (s : State) : (complete op code s).srcLen = s.srcLen := rfl
@[simp] theorem complete_dstOff (op : Byte) (code : ErrCode) (s : State) : (complete op code s).dstOff = s.dstOff := rfl
@[simp] theorem complete_keyOff (op : Byte) (code : ErrCode) (s : State) : (complete op code s).keyOff = s.keyOff := rfl
@[simp] theorem complete_keyLen (op : Byte) (code : ErrCode) (s : State) : (complete op code s).keyLen = s.keyLen := rfl
@[simp] theorem complete_hdrOff (op : Byte) (code : ErrCode) (s : State) : (complete op code s).hdrOff = s.hdrOff := rfl
@[simp] theorem complete_digest (op : Byte) (code : ErrCode) (s : State) : (complete op code s).digest = s.digest := rfl
@[simp] theorem complete_crcOut (op : Byte) (code : ErrCode) (s : State) : (complete op code s).crcOut = s.crcOut := rfl
@[simp] theorem complete_hdrType (op : Byte) (code : ErrCode) (s : State) : (complete op code s).hdrType = s.hdrType := rfl
@[simp] theorem complete_hdrClass (op : Byte) (code : ErrCode) (s : State) : (complete op code s).hdrClass = s.hdrClass := rfl
@[simp] theorem complete_hdrMethod (op : Byte) (code : ErrCode) (s : State) : (complete op code s).hdrMethod = s.hdrMethod := rfl
@[simp] theorem complete_hdrLength (op : Byte) (code : ErrCode) (s : State) : (complete op code s).hdrLength = s.hdrLength := rfl
@[simp] theorem complete_hdrCookie (op : Byte) (code : ErrCode) (s : State) : (complete op code s).hdrCookie = s.hdrCookie := rfl
@[simp] theorem complete_txid0 (op : Byte) (code : ErrCode) (s : State) : (complete op code s).txid0 = s.txid0 := rfl
@[simp] theorem complete_txid1 (op : Byte) (code : ErrCode) (s : State) : (complete op code s).txid1 = s.txid1 := rfl
@[simp] theorem complete_txid2 (op : Byte) (code : ErrCode) (s : State) : (complete op code s).txid2 = s.txid2 := rfl
@[simp] theorem complete_xaFamily (op : Byte) (code : ErrCode) (s : State) : (complete op code s).xaFamily = s.xaFamily := rfl
@[simp] theorem complete_xaPort (op : Byte) (code : ErrCode) (s : State) : (complete op code s).xaPort = s.xaPort := rfl
@[simp] theorem complete_xaAddr0 (op : Byte) (code : ErrCode) (s : State) : (complete op code s).xaAddr0 = s.xaAddr0 := rfl
@[simp] theorem complete_xaAddr1 (op : Byte) (code : ErrCode) (s : State) : (complete op code s).xaAddr1 = s.xaAddr1 := rfl
@[simp] theorem complete_xaAddr2 (op : Byte) (code : ErrCode) (s : State) : (complete op code s).xaAddr2 = s.xaAddr2 := rfl
@[simp] theorem complete_xaAddr3 (op : Byte) (code : ErrCode) (s : State) : (complete op code s).xaAddr3 = s.xaAddr3 := rfl
@[simp] theorem complete_xaLen (op : Byte) (code : ErrCode) (s : State) : (complete op code s).xaLen = s.xaLen := rfl
@[simp] theorem complete_mem (op : Byte) (code : ErrCode) (s : State) : (complete op code s).mem = s.mem := rfl
@[simp] theorem complete_ctx1 (op : Byte) (code : ErrCode) (s : State) : (complete op code s).ctx1 = s.ctx1 := rfl
@[simp] theorem complete_ctx2 (op : Byte) (code : ErrCode) (s : State) : (complete op code s).ctx2 = s.ctx2 := rfl
@[simp] theorem complete_eng (op : Byte) (code : ErrCode) (s : State) : (complete op code s).eng = { s.eng with state := .idle } := rfl
@[simp] theorem complete_host (op : Byte) (code : ErrCode) (s : State) : (complete op code s).host = s.host := rfl

/-! ## succeeded -/

@[simp] theorem succeeded_cfg (op : Byte) (s : State) : (s.succeeded op).cfg = s.cfg := rfl
@[simp] theorem succeeded_irqEn (op : Byte) (s : State) : (s.succeeded op).irqEn = s.irqEn := rfl
@[simp] theorem succeeded_status (op : Byte) (s : State) : (s.succeeded op).status = { s.status with done := true, errcode := .ok, lastOp := op } := rfl
@[simp] theorem succeeded_srcOff (op : Byte) (s : State) : (s.succeeded op).srcOff = s.srcOff := rfl
@[simp] theorem succeeded_srcLen (op : Byte) (s : State) : (s.succeeded op).srcLen = s.srcLen := rfl
@[simp] theorem succeeded_dstOff (op : Byte) (s : State) : (s.succeeded op).dstOff = s.dstOff := rfl
@[simp] theorem succeeded_keyOff (op : Byte) (s : State) : (s.succeeded op).keyOff = s.keyOff := rfl
@[simp] theorem succeeded_keyLen (op : Byte) (s : State) : (s.succeeded op).keyLen = s.keyLen := rfl
@[simp] theorem succeeded_hdrOff (op : Byte) (s : State) : (s.succeeded op).hdrOff = s.hdrOff := rfl
@[simp] theorem succeeded_digest (op : Byte) (s : State) : (s.succeeded op).digest = s.digest := rfl
@[simp] theorem succeeded_crcOut (op : Byte) (s : State) : (s.succeeded op).crcOut = s.crcOut := rfl
@[simp] theorem succeeded_hdrType (op : Byte) (s : State) : (s.succeeded op).hdrType = s.hdrType := rfl
@[simp] theorem succeeded_hdrClass (op : Byte) (s : State) : (s.succeeded op).hdrClass = s.hdrClass := rfl
@[simp] theorem succeeded_hdrMethod (op : Byte) (s : State) : (s.succeeded op).hdrMethod = s.hdrMethod := rfl
@[simp] theorem succeeded_hdrLength (op : Byte) (s : State) : (s.succeeded op).hdrLength = s.hdrLength := rfl
@[simp] theorem succeeded_hdrCookie (op : Byte) (s : State) : (s.succeeded op).hdrCookie = s.hdrCookie := rfl
@[simp] theorem succeeded_txid0 (op : Byte) (s : State) : (s.succeeded op).txid0 = s.txid0 := rfl
@[simp] theorem succeeded_txid1 (op : Byte) (s : State) : (s.succeeded op).txid1 = s.txid1 := rfl
@[simp] theorem succeeded_txid2 (op : Byte) (s : State) : (s.succeeded op).txid2 = s.txid2 := rfl
@[simp] theorem succeeded_xaFamily (op : Byte) (s : State) : (s.succeeded op).xaFamily = s.xaFamily := rfl
@[simp] theorem succeeded_xaPort (op : Byte) (s : State) : (s.succeeded op).xaPort = s.xaPort := rfl
@[simp] theorem succeeded_xaAddr0 (op : Byte) (s : State) : (s.succeeded op).xaAddr0 = s.xaAddr0 := rfl
@[simp] theorem succeeded_xaAddr1 (op : Byte) (s : State) : (s.succeeded op).xaAddr1 = s.xaAddr1 := rfl
@[simp] theorem succeeded_xaAddr2 (op : Byte) (s : State) : (s.succeeded op).xaAddr2 = s.xaAddr2 := rfl
@[simp] theorem succeeded_xaAddr3 (op : Byte) (s : State) : (s.succeeded op).xaAddr3 = s.xaAddr3 := rfl
@[simp] theorem succeeded_xaLen (op : Byte) (s : State) : (s.succeeded op).xaLen = s.xaLen := rfl
@[simp] theorem succeeded_mem (op : Byte) (s : State) : (s.succeeded op).mem = s.mem := rfl
@[simp] theorem succeeded_ctx1 (op : Byte) (s : State) : (s.succeeded op).ctx1 = s.ctx1 := rfl
@[simp] theorem succeeded_ctx2 (op : Byte) (s : State) : (s.succeeded op).ctx2 = s.ctx2 := rfl
@[simp] theorem succeeded_eng (op : Byte) (s : State) : (s.succeeded op).eng = { s.eng with state := .idle } := rfl
@[simp] theorem succeeded_host (op : Byte) (s : State) : (s.succeeded op).host = s.host := rfl

/-! ## failed -/

@[simp] theorem failed_cfg (op : Byte) (code : ErrCode) (s : State) : (s.failed op code).cfg = s.cfg := rfl
@[simp] theorem failed_irqEn (op : Byte) (code : ErrCode) (s : State) : (s.failed op code).irqEn = s.irqEn := rfl
@[simp] theorem failed_status (op : Byte) (code : ErrCode) (s : State) : (s.failed op code).status = { s.status with done := true, err := true, errcode := code, lastOp := op } := rfl
@[simp] theorem failed_srcOff (op : Byte) (code : ErrCode) (s : State) : (s.failed op code).srcOff = s.srcOff := rfl
@[simp] theorem failed_srcLen (op : Byte) (code : ErrCode) (s : State) : (s.failed op code).srcLen = s.srcLen := rfl
@[simp] theorem failed_dstOff (op : Byte) (code : ErrCode) (s : State) : (s.failed op code).dstOff = s.dstOff := rfl
@[simp] theorem failed_keyOff (op : Byte) (code : ErrCode) (s : State) : (s.failed op code).keyOff = s.keyOff := rfl
@[simp] theorem failed_keyLen (op : Byte) (code : ErrCode) (s : State) : (s.failed op code).keyLen = s.keyLen := rfl
@[simp] theorem failed_hdrOff (op : Byte) (code : ErrCode) (s : State) : (s.failed op code).hdrOff = s.hdrOff := rfl
@[simp] theorem failed_digest (op : Byte) (code : ErrCode) (s : State) : (s.failed op code).digest = s.digest := rfl
@[simp] theorem failed_crcOut (op : Byte) (code : ErrCode) (s : State) : (s.failed op code).crcOut = s.crcOut := rfl
@[simp] theorem failed_hdrType (op : Byte) (code : ErrCode) (s : State) : (s.failed op code).hdrType = s.hdrType := rfl
@[simp] theorem failed_hdrClass (op : Byte) (code : ErrCode) (s : State) : (s.failed op code).hdrClass = s.hdrClass := rfl
@[simp] theorem failed_hdrMethod (op : Byte) (code : ErrCode) (s : State) : (s.failed op code).hdrMethod = s.hdrMethod := rfl
@[simp] theorem failed_hdrLength (op : Byte) (code : ErrCode) (s : State) : (s.failed op code).hdrLength = s.hdrLength := rfl
@[simp] theorem failed_hdrCookie (op : Byte) (code : ErrCode) (s : State) : (s.failed op code).hdrCookie = s.hdrCookie := rfl
@[simp] theorem failed_txid0 (op : Byte) (code : ErrCode) (s : State) : (s.failed op code).txid0 = s.txid0 := rfl
@[simp] theorem failed_txid1 (op : Byte) (code : ErrCode) (s : State) : (s.failed op code).txid1 = s.txid1 := rfl
@[simp] theorem failed_txid2 (op : Byte) (code : ErrCode) (s : State) : (s.failed op code).txid2 = s.txid2 := rfl
@[simp] theorem failed_xaFamily (op : Byte) (code : ErrCode) (s : State) : (s.failed op code).xaFamily = s.xaFamily := rfl
@[simp] theorem failed_xaPort (op : Byte) (code : ErrCode) (s : State) : (s.failed op code).xaPort = s.xaPort := rfl
@[simp] theorem failed_xaAddr0 (op : Byte) (code : ErrCode) (s : State) : (s.failed op code).xaAddr0 = s.xaAddr0 := rfl
@[simp] theorem failed_xaAddr1 (op : Byte) (code : ErrCode) (s : State) : (s.failed op code).xaAddr1 = s.xaAddr1 := rfl
@[simp] theorem failed_xaAddr2 (op : Byte) (code : ErrCode) (s : State) : (s.failed op code).xaAddr2 = s.xaAddr2 := rfl
@[simp] theorem failed_xaAddr3 (op : Byte) (code : ErrCode) (s : State) : (s.failed op code).xaAddr3 = s.xaAddr3 := rfl
@[simp] theorem failed_xaLen (op : Byte) (code : ErrCode) (s : State) : (s.failed op code).xaLen = s.xaLen := rfl
@[simp] theorem failed_mem (op : Byte) (code : ErrCode) (s : State) : (s.failed op code).mem = s.mem := rfl
@[simp] theorem failed_ctx1 (op : Byte) (code : ErrCode) (s : State) : (s.failed op code).ctx1 = s.ctx1 := rfl
@[simp] theorem failed_ctx2 (op : Byte) (code : ErrCode) (s : State) : (s.failed op code).ctx2 = s.ctx2 := rfl
@[simp] theorem failed_eng (op : Byte) (code : ErrCode) (s : State) : (s.failed op code).eng = { s.eng with state := .idle } := rfl
@[simp] theorem failed_host (op : Byte) (code : ErrCode) (s : State) : (s.failed op code).host = s.host := rfl

/-! ## memWrite -/

@[simp] theorem memWrite_cfg (s : State) (off : Nat) (bs : List Byte) : (memWrite s off bs).cfg = s.cfg := rfl
@[simp] theorem memWrite_irqEn (s : State) (off : Nat) (bs : List Byte) : (memWrite s off bs).irqEn = s.irqEn := rfl
@[simp] theorem memWrite_status (s : State) (off : Nat) (bs : List Byte) : (memWrite s off bs).status = s.status := rfl
@[simp] theorem memWrite_srcOff (s : State) (off : Nat) (bs : List Byte) : (memWrite s off bs).srcOff = s.srcOff := rfl
@[simp] theorem memWrite_srcLen (s : State) (off : Nat) (bs : List Byte) : (memWrite s off bs).srcLen = s.srcLen := rfl
@[simp] theorem memWrite_dstOff (s : State) (off : Nat) (bs : List Byte) : (memWrite s off bs).dstOff = s.dstOff := rfl
@[simp] theorem memWrite_keyOff (s : State) (off : Nat) (bs : List Byte) : (memWrite s off bs).keyOff = s.keyOff := rfl
@[simp] theorem memWrite_keyLen (s : State) (off : Nat) (bs : List Byte) : (memWrite s off bs).keyLen = s.keyLen := rfl
@[simp] theorem memWrite_hdrOff (s : State) (off : Nat) (bs : List Byte) : (memWrite s off bs).hdrOff = s.hdrOff := rfl
@[simp] theorem memWrite_digest (s : State) (off : Nat) (bs : List Byte) : (memWrite s off bs).digest = s.digest := rfl
@[simp] theorem memWrite_crcOut (s : State) (off : Nat) (bs : List Byte) : (memWrite s off bs).crcOut = s.crcOut := rfl
@[simp] theorem memWrite_hdrType (s : State) (off : Nat) (bs : List Byte) : (memWrite s off bs).hdrType = s.hdrType := rfl
@[simp] theorem memWrite_hdrClass (s : State) (off : Nat) (bs : List Byte) : (memWrite s off bs).hdrClass = s.hdrClass := rfl
@[simp] theorem memWrite_hdrMethod (s : State) (off : Nat) (bs : List Byte) : (memWrite s off bs).hdrMethod = s.hdrMethod := rfl
@[simp] theorem memWrite_hdrLength (s : State) (off : Nat) (bs : List Byte) : (memWrite s off bs).hdrLength = s.hdrLength := rfl
@[simp] theorem memWrite_hdrCookie (s : State) (off : Nat) (bs : List Byte) : (memWrite s off bs).hdrCookie = s.hdrCookie := rfl
@[simp] theorem memWrite_txid0 (s : State) (off : Nat) (bs : List Byte) : (memWrite s off bs).txid0 = s.txid0 := rfl
@[simp] theorem memWrite_txid1 (s : State) (off : Nat) (bs : List Byte) : (memWrite s off bs).txid1 = s.txid1 := rfl
@[simp] theorem memWrite_txid2 (s : State) (off : Nat) (bs : List Byte) : (memWrite s off bs).txid2 = s.txid2 := rfl
@[simp] theorem memWrite_xaFamily (s : State) (off : Nat) (bs : List Byte) : (memWrite s off bs).xaFamily = s.xaFamily := rfl
@[simp] theorem memWrite_xaPort (s : State) (off : Nat) (bs : List Byte) : (memWrite s off bs).xaPort = s.xaPort := rfl
@[simp] theorem memWrite_xaAddr0 (s : State) (off : Nat) (bs : List Byte) : (memWrite s off bs).xaAddr0 = s.xaAddr0 := rfl
@[simp] theorem memWrite_xaAddr1 (s : State) (off : Nat) (bs : List Byte) : (memWrite s off bs).xaAddr1 = s.xaAddr1 := rfl
@[simp] theorem memWrite_xaAddr2 (s : State) (off : Nat) (bs : List Byte) : (memWrite s off bs).xaAddr2 = s.xaAddr2 := rfl
@[simp] theorem memWrite_xaAddr3 (s : State) (off : Nat) (bs : List Byte) : (memWrite s off bs).xaAddr3 = s.xaAddr3 := rfl
@[simp] theorem memWrite_xaLen (s : State) (off : Nat) (bs : List Byte) : (memWrite s off bs).xaLen = s.xaLen := rfl
@[simp] theorem memWrite_mem (s : State) (off : Nat) (bs : List Byte) : (memWrite s off bs).mem = Memory.writeBytes s.mem off bs := rfl
@[simp] theorem memWrite_ctx1 (s : State) (off : Nat) (bs : List Byte) : (memWrite s off bs).ctx1 = s.ctx1 := rfl
@[simp] theorem memWrite_ctx2 (s : State) (off : Nat) (bs : List Byte) : (memWrite s off bs).ctx2 = s.ctx2 := rfl
@[simp] theorem memWrite_eng (s : State) (off : Nat) (bs : List Byte) : (memWrite s off bs).eng = s.eng := rfl
@[simp] theorem memWrite_host (s : State) (off : Nat) (bs : List Byte) : (memWrite s off bs).host = s.host := rfl

/-! ## storeResult -/

@[simp] theorem storeResult_cfg (store : Bool) (bs : List Byte) (s : State) : (storeResult store bs s).cfg = s.cfg := by cases store <;> rfl
@[simp] theorem storeResult_irqEn (store : Bool) (bs : List Byte) (s : State) : (storeResult store bs s).irqEn = s.irqEn := by cases store <;> rfl
@[simp] theorem storeResult_status (store : Bool) (bs : List Byte) (s : State) : (storeResult store bs s).status = s.status := by cases store <;> rfl
@[simp] theorem storeResult_srcOff (store : Bool) (bs : List Byte) (s : State) : (storeResult store bs s).srcOff = s.srcOff := by cases store <;> rfl
@[simp] theorem storeResult_srcLen (store : Bool) (bs : List Byte) (s : State) : (storeResult store bs s).srcLen = s.srcLen := by cases store <;> rfl
@[simp] theorem storeResult_dstOff (store : Bool) (bs : List Byte) (s : State) : (storeResult store bs s).dstOff = s.dstOff := by cases store <;> rfl
@[simp] theorem storeResult_keyOff (store : Bool) (bs : List Byte) (s : State) : (storeResult store bs s).keyOff = s.keyOff := by cases store <;> rfl
@[simp] theorem storeResult_keyLen (store : Bool) (bs : List Byte) (s : State) : (storeResult store bs s).keyLen = s.keyLen := by cases store <;> rfl
@[simp] theorem storeResult_hdrOff (store : Bool) (bs : List Byte) (s : State) : (storeResult store bs s).hdrOff = s.hdrOff := by cases store <;> rfl
@[simp] theorem storeResult_digest (store : Bool) (bs : List Byte) (s : State) : (storeResult store bs s).digest = s.digest := by cases store <;> rfl
@[simp] theorem storeResult_crcOut (store : Bool) (bs : List Byte) (s : State) : (storeResult store bs s).crcOut = s.crcOut := by cases store <;> rfl
@[simp] theorem storeResult_hdrType (store : Bool) (bs : List Byte) (s : State) : (storeResult store bs s).hdrType = s.hdrType := by cases store <;> rfl
@[simp] theorem storeResult_hdrClass (store : Bool) (bs : List Byte) (s : State) : (storeResult store bs s).hdrClass = s.hdrClass := by cases store <;> rfl
@[simp] theorem storeResult_hdrMethod (store : Bool) (bs : List Byte) (s : State) : (storeResult store bs s).hdrMethod = s.hdrMethod := by cases store <;> rfl
@[simp] theorem storeResult_hdrLength (store : Bool) (bs : List Byte) (s : State) : (storeResult store bs s).hdrLength = s.hdrLength := by cases store <;> rfl
@[simp] theorem storeResult_hdrCookie (store : Bool) (bs : List Byte) (s : State) : (storeResult store bs s).hdrCookie = s.hdrCookie := by cases store <;> rfl
@[simp] theorem storeResult_txid0 (store : Bool) (bs : List Byte) (s : State) : (storeResult store bs s).txid0 = s.txid0 := by cases store <;> rfl
@[simp] theorem storeResult_txid1 (store : Bool) (bs : List Byte) (s : State) : (storeResult store bs s).txid1 = s.txid1 := by cases store <;> rfl
@[simp] theorem storeResult_txid2 (store : Bool) (bs : List Byte) (s : State) : (storeResult store bs s).txid2 = s.txid2 := by cases store <;> rfl
@[simp] theorem storeResult_xaFamily (store : Bool) (bs : List Byte) (s : State) : (storeResult store bs s).xaFamily = s.xaFamily := by cases store <;> rfl
@[simp] theorem storeResult_xaPort (store : Bool) (bs : List Byte) (s : State) : (storeResult store bs s).xaPort = s.xaPort := by cases store <;> rfl
@[simp] theorem storeResult_xaAddr0 (store : Bool) (bs : List Byte) (s : State) : (storeResult store bs s).xaAddr0 = s.xaAddr0 := by cases store <;> rfl
@[simp] theorem storeResult_xaAddr1 (store : Bool) (bs : List Byte) (s : State) : (storeResult store bs s).xaAddr1 = s.xaAddr1 := by cases store <;> rfl
@[simp] theorem storeResult_xaAddr2 (store : Bool) (bs : List Byte) (s : State) : (storeResult store bs s).xaAddr2 = s.xaAddr2 := by cases store <;> rfl
@[simp] theorem storeResult_xaAddr3 (store : Bool) (bs : List Byte) (s : State) : (storeResult store bs s).xaAddr3 = s.xaAddr3 := by cases store <;> rfl
@[simp] theorem storeResult_xaLen (store : Bool) (bs : List Byte) (s : State) : (storeResult store bs s).xaLen = s.xaLen := by cases store <;> rfl
@[simp] theorem storeResult_ctx1 (store : Bool) (bs : List Byte) (s : State) : (storeResult store bs s).ctx1 = s.ctx1 := by cases store <;> rfl
@[simp] theorem storeResult_ctx2 (store : Bool) (bs : List Byte) (s : State) : (storeResult store bs s).ctx2 = s.ctx2 := by cases store <;> rfl
@[simp] theorem storeResult_eng (store : Bool) (bs : List Byte) (s : State) : (storeResult store bs s).eng = s.eng := by cases store <;> rfl
@[simp] theorem storeResult_host (store : Bool) (bs : List Byte) (s : State) : (storeResult store bs s).host = s.host := by cases store <;> rfl

/-! ## respond -/

@[simp] theorem respond_cfg (s : State) (r : BusResponse) : (respond s r).cfg = s.cfg := rfl
@[simp] theorem respond_irqEn (s : State) (r : BusResponse) : (respond s r).irqEn = s.irqEn := rfl
@[simp] theorem respond_status (s : State) (r : BusResponse) : (respond s r).status = s.status := rfl
@[simp] theorem respond_srcOff (s : State) (r : BusResponse) : (respond s r).srcOff = s.srcOff := rfl
@[simp] theorem respond_srcLen (s : State) (r : BusResponse) : (respond s r).srcLen = s.srcLen := rfl
@[simp] theorem respond_dstOff (s : State) (r : BusResponse) : (respond s r).dstOff = s.dstOff := rfl
@[simp] theorem respond_keyOff (s : State) (r : BusResponse) : (respond s r).keyOff = s.keyOff := rfl
@[simp] theorem respond_keyLen (s : State) (r : BusResponse) : (respond s r).keyLen = s.keyLen := rfl
@[simp] theorem respond_hdrOff (s : State) (r : BusResponse) : (respond s r).hdrOff = s.hdrOff := rfl
@[simp] theorem respond_digest (s : State) (r : BusResponse) : (respond s r).digest = s.digest := rfl
@[simp] theorem respond_crcOut (s : State) (r : BusResponse) : (respond s r).crcOut = s.crcOut := rfl
@[simp] theorem respond_hdrType (s : State) (r : BusResponse) : (respond s r).hdrType = s.hdrType := rfl
@[simp] theorem respond_hdrClass (s : State) (r : BusResponse) : (respond s r).hdrClass = s.hdrClass := rfl
@[simp] theorem respond_hdrMethod (s : State) (r : BusResponse) : (respond s r).hdrMethod = s.hdrMethod := rfl
@[simp] theorem respond_hdrLength (s : State) (r : BusResponse) : (respond s r).hdrLength = s.hdrLength := rfl
@[simp] theorem respond_hdrCookie (s : State) (r : BusResponse) : (respond s r).hdrCookie = s.hdrCookie := rfl
@[simp] theorem respond_txid0 (s : State) (r : BusResponse) : (respond s r).txid0 = s.txid0 := rfl
@[simp] theorem respond_txid1 (s : State) (r : BusResponse) : (respond s r).txid1 = s.txid1 := rfl
@[simp] theorem respond_txid2 (s : State) (r : BusResponse) : (respond s r).txid2 = s.txid2 := rfl
@[simp] theorem respond_xaFamily (s : State) (r : BusResponse) : (respond s r).xaFamily = s.xaFamily := rfl
@[simp] theorem respond_xaPort (s : State) (r : BusResponse) : (respond s r).xaPort = s.xaPort := rfl
@[simp] theorem respond_xaAddr0 (s : State) (r : BusResponse) : (respond s r).xaAddr0 = s.xaAddr0 := rfl
@[simp] theorem respond_xaAddr1 (s : State) (r : BusResponse) : (respond s r).xaAddr1 = s.xaAddr1 := rfl
@[simp] theorem respond_xaAddr2 (s : State) (r : BusResponse) : (respond s r).xaAddr2 = s.xaAddr2 := rfl
@[simp] theorem respond_xaAddr3 (s : State) (r : BusResponse) : (respond s r).xaAddr3 = s.xaAddr3 := rfl
@[simp] theorem respond_xaLen (s : State) (r : BusResponse) : (respond s r).xaLen = s.xaLen := rfl
@[simp] theorem respond_mem (s : State) (r : BusResponse) : (respond s r).mem = s.mem := rfl
@[simp] theorem respond_ctx1 (s : State) (r : BusResponse) : (respond s r).ctx1 = s.ctx1 := rfl
@[simp] theorem respond_ctx2 (s : State) (r : BusResponse) : (respond s r).ctx2 = s.ctx2 := rfl
@[simp] theorem respond_eng (s : State) (r : BusResponse) : (respond s r).eng = s.eng := rfl
@[simp] theorem respond_host (s : State) (r : BusResponse) : (respond s r).host = { s.host with responses := r :: s.host.responses } := rfl

/-! ## takeMove -/

@[simp] theorem takeMove_cfg (s : State) : (takeMove s).cfg = s.cfg := rfl
@[simp] theorem takeMove_irqEn (s : State) : (takeMove s).irqEn = s.irqEn := rfl
@[simp] theorem takeMove_status (s : State) : (takeMove s).status = s.status := rfl
@[simp] theorem takeMove_srcOff (s : State) : (takeMove s).srcOff = s.srcOff := rfl
@[simp] theorem takeMove_srcLen (s : State) : (takeMove s).srcLen = s.srcLen := rfl
@[simp] theorem takeMove_dstOff (s : State) : (takeMove s).dstOff = s.dstOff := rfl
@[simp] theorem takeMove_keyOff (s : State) : (takeMove s).keyOff = s.keyOff := rfl
@[simp] theorem takeMove_keyLen (s : State) : (takeMove s).keyLen = s.keyLen := rfl
@[simp] theorem takeMove_hdrOff (s : State) : (takeMove s).hdrOff = s.hdrOff := rfl
@[simp] theorem takeMove_digest (s : State) : (takeMove s).digest = s.digest := rfl
@[simp] theorem takeMove_crcOut (s : State) : (takeMove s).crcOut = s.crcOut := rfl
@[simp] theorem takeMove_hdrType (s : State) : (takeMove s).hdrType = s.hdrType := rfl
@[simp] theorem takeMove_hdrClass (s : State) : (takeMove s).hdrClass = s.hdrClass := rfl
@[simp] theorem takeMove_hdrMethod (s : State) : (takeMove s).hdrMethod = s.hdrMethod := rfl
@[simp] theorem takeMove_hdrLength (s : State) : (takeMove s).hdrLength = s.hdrLength := rfl
@[simp] theorem takeMove_hdrCookie (s : State) : (takeMove s).hdrCookie = s.hdrCookie := rfl
@[simp] theorem takeMove_txid0 (s : State) : (takeMove s).txid0 = s.txid0 := rfl
@[simp] theorem takeMove_txid1 (s : State) : (takeMove s).txid1 = s.txid1 := rfl
@[simp] theorem takeMove_txid2 (s : State) : (takeMove s).txid2 = s.txid2 := rfl
@[simp] theorem takeMove_xaFamily (s : State) : (takeMove s).xaFamily = s.xaFamily := rfl
@[simp] theorem takeMove_xaPort (s : State) : (takeMove s).xaPort = s.xaPort := rfl
@[simp] theorem takeMove_xaAddr0 (s : State) : (takeMove s).xaAddr0 = s.xaAddr0 := rfl
@[simp] theorem takeMove_xaAddr1 (s : State) : (takeMove s).xaAddr1 = s.xaAddr1 := rfl
@[simp] theorem takeMove_xaAddr2 (s : State) : (takeMove s).xaAddr2 = s.xaAddr2 := rfl
@[simp] theorem takeMove_xaAddr3 (s : State) : (takeMove s).xaAddr3 = s.xaAddr3 := rfl
@[simp] theorem takeMove_xaLen (s : State) : (takeMove s).xaLen = s.xaLen := rfl
@[simp] theorem takeMove_mem (s : State) : (takeMove s).mem = s.mem := rfl
@[simp] theorem takeMove_ctx1 (s : State) : (takeMove s).ctx1 = s.ctx1 := rfl
@[simp] theorem takeMove_ctx2 (s : State) : (takeMove s).ctx2 = s.ctx2 := rfl
@[simp] theorem takeMove_eng (s : State) : (takeMove s).eng = s.eng := rfl
@[simp] theorem takeMove_host (s : State) : (takeMove s).host = { s.host with pending := s.host.pending.tail } := rfl

/-! ## setOvr -/

@[simp] theorem setOvr_cfg (s : State) : (setOvr s).cfg = s.cfg := rfl
@[simp] theorem setOvr_irqEn (s : State) : (setOvr s).irqEn = s.irqEn := rfl
@[simp] theorem setOvr_status (s : State) : (setOvr s).status = { s.status with ovr := true } := rfl
@[simp] theorem setOvr_srcOff (s : State) : (setOvr s).srcOff = s.srcOff := rfl
@[simp] theorem setOvr_srcLen (s : State) : (setOvr s).srcLen = s.srcLen := rfl
@[simp] theorem setOvr_dstOff (s : State) : (setOvr s).dstOff = s.dstOff := rfl
@[simp] theorem setOvr_keyOff (s : State) : (setOvr s).keyOff = s.keyOff := rfl
@[simp] theorem setOvr_keyLen (s : State) : (setOvr s).keyLen = s.keyLen := rfl
@[simp] theorem setOvr_hdrOff (s : State) : (setOvr s).hdrOff = s.hdrOff := rfl
@[simp] theorem setOvr_digest (s : State) : (setOvr s).digest = s.digest := rfl
@[simp] theorem setOvr_crcOut (s : State) : (setOvr s).crcOut = s.crcOut := rfl
@[simp] theorem setOvr_hdrType (s : State) : (setOvr s).hdrType = s.hdrType := rfl
@[simp] theorem setOvr_hdrClass (s : State) : (setOvr s).hdrClass = s.hdrClass := rfl
@[simp] theorem setOvr_hdrMethod (s : State) : (setOvr s).hdrMethod = s.hdrMethod := rfl
@[simp] theorem setOvr_hdrLength (s : State) : (setOvr s).hdrLength = s.hdrLength := rfl
@[simp] theorem setOvr_hdrCookie (s : State) : (setOvr s).hdrCookie = s.hdrCookie := rfl
@[simp] theorem setOvr_txid0 (s : State) : (setOvr s).txid0 = s.txid0 := rfl
@[simp] theorem setOvr_txid1 (s : State) : (setOvr s).txid1 = s.txid1 := rfl
@[simp] theorem setOvr_txid2 (s : State) : (setOvr s).txid2 = s.txid2 := rfl
@[simp] theorem setOvr_xaFamily (s : State) : (setOvr s).xaFamily = s.xaFamily := rfl
@[simp] theorem setOvr_xaPort (s : State) : (setOvr s).xaPort = s.xaPort := rfl
@[simp] theorem setOvr_xaAddr0 (s : State) : (setOvr s).xaAddr0 = s.xaAddr0 := rfl
@[simp] theorem setOvr_xaAddr1 (s : State) : (setOvr s).xaAddr1 = s.xaAddr1 := rfl
@[simp] theorem setOvr_xaAddr2 (s : State) : (setOvr s).xaAddr2 = s.xaAddr2 := rfl
@[simp] theorem setOvr_xaAddr3 (s : State) : (setOvr s).xaAddr3 = s.xaAddr3 := rfl
@[simp] theorem setOvr_xaLen (s : State) : (setOvr s).xaLen = s.xaLen := rfl
@[simp] theorem setOvr_mem (s : State) : (setOvr s).mem = s.mem := rfl
@[simp] theorem setOvr_ctx1 (s : State) : (setOvr s).ctx1 = s.ctx1 := rfl
@[simp] theorem setOvr_ctx2 (s : State) : (setOvr s).ctx2 = s.ctx2 := rfl
@[simp] theorem setOvr_eng (s : State) : (setOvr s).eng = s.eng := rfl
@[simp] theorem setOvr_host (s : State) : (setOvr s).host = s.host := rfl

/-! ## statusWrite -/

@[simp] theorem statusWrite_cfg (s : State) (d : Word) : (statusWrite s d).cfg = s.cfg := rfl
@[simp] theorem statusWrite_irqEn (s : State) (d : Word) : (statusWrite s d).irqEn = s.irqEn := rfl
@[simp] theorem statusWrite_status (s : State) (d : Word) : (statusWrite s d).status = { s.status with done := s.status.done && !d.getLsbD 1, err := s.status.err && !d.getLsbD 2, ovr := s.status.ovr && !d.getLsbD 3 } := rfl
@[simp] theorem statusWrite_srcOff (s : State) (d : Word) : (statusWrite s d).srcOff = s.srcOff := rfl
@[simp] theorem statusWrite_srcLen (s : State) (d : Word) : (statusWrite s d).srcLen = s.srcLen := rfl
@[simp] theorem statusWrite_dstOff (s : State) (d : Word) : (statusWrite s d).dstOff = s.dstOff := rfl
@[simp] theorem statusWrite_keyOff (s : State) (d : Word) : (statusWrite s d).keyOff = s.keyOff := rfl
@[simp] theorem statusWrite_keyLen (s : State) (d : Word) : (statusWrite s d).keyLen = s.keyLen := rfl
@[simp] theorem statusWrite_hdrOff (s : State) (d : Word) : (statusWrite s d).hdrOff = s.hdrOff := rfl
@[simp] theorem statusWrite_digest (s : State) (d : Word) : (statusWrite s d).digest = s.digest := rfl
@[simp] theorem statusWrite_crcOut (s : State) (d : Word) : (statusWrite s d).crcOut = s.crcOut := rfl
@[simp] theorem statusWrite_hdrType (s : State) (d : Word) : (statusWrite s d).hdrType = s.hdrType := rfl
@[simp] theorem statusWrite_hdrClass (s : State) (d : Word) : (statusWrite s d).hdrClass = s.hdrClass := rfl
@[simp] theorem statusWrite_hdrMethod (s : State) (d : Word) : (statusWrite s d).hdrMethod = s.hdrMethod := rfl
@[simp] theorem statusWrite_hdrLength (s : State) (d : Word) : (statusWrite s d).hdrLength = s.hdrLength := rfl
@[simp] theorem statusWrite_hdrCookie (s : State) (d : Word) : (statusWrite s d).hdrCookie = s.hdrCookie := rfl
@[simp] theorem statusWrite_txid0 (s : State) (d : Word) : (statusWrite s d).txid0 = s.txid0 := rfl
@[simp] theorem statusWrite_txid1 (s : State) (d : Word) : (statusWrite s d).txid1 = s.txid1 := rfl
@[simp] theorem statusWrite_txid2 (s : State) (d : Word) : (statusWrite s d).txid2 = s.txid2 := rfl
@[simp] theorem statusWrite_xaFamily (s : State) (d : Word) : (statusWrite s d).xaFamily = s.xaFamily := rfl
@[simp] theorem statusWrite_xaPort (s : State) (d : Word) : (statusWrite s d).xaPort = s.xaPort := rfl
@[simp] theorem statusWrite_xaAddr0 (s : State) (d : Word) : (statusWrite s d).xaAddr0 = s.xaAddr0 := rfl
@[simp] theorem statusWrite_xaAddr1 (s : State) (d : Word) : (statusWrite s d).xaAddr1 = s.xaAddr1 := rfl
@[simp] theorem statusWrite_xaAddr2 (s : State) (d : Word) : (statusWrite s d).xaAddr2 = s.xaAddr2 := rfl
@[simp] theorem statusWrite_xaAddr3 (s : State) (d : Word) : (statusWrite s d).xaAddr3 = s.xaAddr3 := rfl
@[simp] theorem statusWrite_xaLen (s : State) (d : Word) : (statusWrite s d).xaLen = s.xaLen := rfl
@[simp] theorem statusWrite_mem (s : State) (d : Word) : (statusWrite s d).mem = s.mem := rfl
@[simp] theorem statusWrite_ctx1 (s : State) (d : Word) : (statusWrite s d).ctx1 = s.ctx1 := rfl
@[simp] theorem statusWrite_ctx2 (s : State) (d : Word) : (statusWrite s d).ctx2 = s.ctx2 := rfl
@[simp] theorem statusWrite_eng (s : State) (d : Word) : (statusWrite s d).eng = s.eng := rfl
@[simp] theorem statusWrite_host (s : State) (d : Word) : (statusWrite s d).host = s.host := rfl

/-! ## acceptCommand -/

@[simp] theorem acceptCommand_cfg (s : State) (d : Word) : (acceptCommand s d).cfg = s.cfg := rfl
@[simp] theorem acceptCommand_irqEn (s : State) (d : Word) : (acceptCommand s d).irqEn = s.irqEn := rfl
@[simp] theorem acceptCommand_status (s : State) (d : Word) : (acceptCommand s d).status = s.status := rfl
@[simp] theorem acceptCommand_srcOff (s : State) (d : Word) : (acceptCommand s d).srcOff = s.srcOff := rfl
@[simp] theorem acceptCommand_srcLen (s : State) (d : Word) : (acceptCommand s d).srcLen = s.srcLen := rfl
@[simp] theorem acceptCommand_dstOff (s : State) (d : Word) : (acceptCommand s d).dstOff = s.dstOff := rfl
@[simp] theorem acceptCommand_keyOff (s : State) (d : Word) : (acceptCommand s d).keyOff = s.keyOff := rfl
@[simp] theorem acceptCommand_keyLen (s : State) (d : Word) : (acceptCommand s d).keyLen = s.keyLen := rfl
@[simp] theorem acceptCommand_hdrOff (s : State) (d : Word) : (acceptCommand s d).hdrOff = s.hdrOff := rfl
@[simp] theorem acceptCommand_digest (s : State) (d : Word) : (acceptCommand s d).digest = s.digest := rfl
@[simp] theorem acceptCommand_crcOut (s : State) (d : Word) : (acceptCommand s d).crcOut = s.crcOut := rfl
@[simp] theorem acceptCommand_hdrType (s : State) (d : Word) : (acceptCommand s d).hdrType = s.hdrType := rfl
@[simp] theorem acceptCommand_hdrClass (s : State) (d : Word) : (acceptCommand s d).hdrClass = s.hdrClass := rfl
@[simp] theorem acceptCommand_hdrMethod (s : State) (d : Word) : (acceptCommand s d).hdrMethod = s.hdrMethod := rfl
@[simp] theorem acceptCommand_hdrLength (s : State) (d : Word) : (acceptCommand s d).hdrLength = s.hdrLength := rfl
@[simp] theorem acceptCommand_hdrCookie (s : State) (d : Word) : (acceptCommand s d).hdrCookie = s.hdrCookie := rfl
@[simp] theorem acceptCommand_txid0 (s : State) (d : Word) : (acceptCommand s d).txid0 = s.txid0 := rfl
@[simp] theorem acceptCommand_txid1 (s : State) (d : Word) : (acceptCommand s d).txid1 = s.txid1 := rfl
@[simp] theorem acceptCommand_txid2 (s : State) (d : Word) : (acceptCommand s d).txid2 = s.txid2 := rfl
@[simp] theorem acceptCommand_xaFamily (s : State) (d : Word) : (acceptCommand s d).xaFamily = s.xaFamily := rfl
@[simp] theorem acceptCommand_xaPort (s : State) (d : Word) : (acceptCommand s d).xaPort = s.xaPort := rfl
@[simp] theorem acceptCommand_xaAddr0 (s : State) (d : Word) : (acceptCommand s d).xaAddr0 = s.xaAddr0 := rfl
@[simp] theorem acceptCommand_xaAddr1 (s : State) (d : Word) : (acceptCommand s d).xaAddr1 = s.xaAddr1 := rfl
@[simp] theorem acceptCommand_xaAddr2 (s : State) (d : Word) : (acceptCommand s d).xaAddr2 = s.xaAddr2 := rfl
@[simp] theorem acceptCommand_xaAddr3 (s : State) (d : Word) : (acceptCommand s d).xaAddr3 = s.xaAddr3 := rfl
@[simp] theorem acceptCommand_xaLen (s : State) (d : Word) : (acceptCommand s d).xaLen = s.xaLen := rfl
@[simp] theorem acceptCommand_mem (s : State) (d : Word) : (acceptCommand s d).mem = s.mem := rfl
@[simp] theorem acceptCommand_ctx1 (s : State) (d : Word) : (acceptCommand s d).ctx1 = s.ctx1 := rfl
@[simp] theorem acceptCommand_ctx2 (s : State) (d : Word) : (acceptCommand s d).ctx2 = s.ctx2 := rfl
@[simp] theorem acceptCommand_eng (s : State) (d : Word) : (acceptCommand s d).eng = { state := .busy, cmd := d } := rfl
@[simp] theorem acceptCommand_host (s : State) (d : Word) : (acceptCommand s d).host = s.host := rfl

/-! ## powerOnReset -/

@[simp] theorem powerOnReset_cfg (cfg : Config) : (State.powerOnReset cfg).cfg = cfg := rfl
@[simp] theorem powerOnReset_irqEn (cfg : Config) : (State.powerOnReset cfg).irqEn = false := rfl
@[simp] theorem powerOnReset_status (cfg : Config) : (State.powerOnReset cfg).status = Status.reset := rfl
@[simp] theorem powerOnReset_srcOff (cfg : Config) : (State.powerOnReset cfg).srcOff = 0 := rfl
@[simp] theorem powerOnReset_srcLen (cfg : Config) : (State.powerOnReset cfg).srcLen = 0 := rfl
@[simp] theorem powerOnReset_dstOff (cfg : Config) : (State.powerOnReset cfg).dstOff = 0 := rfl
@[simp] theorem powerOnReset_keyOff (cfg : Config) : (State.powerOnReset cfg).keyOff = 0 := rfl
@[simp] theorem powerOnReset_keyLen (cfg : Config) : (State.powerOnReset cfg).keyLen = 0 := rfl
@[simp] theorem powerOnReset_hdrOff (cfg : Config) : (State.powerOnReset cfg).hdrOff = 0 := rfl
@[simp] theorem powerOnReset_digest (cfg : Config) : (State.powerOnReset cfg).digest = Words8.zero := rfl
@[simp] theorem powerOnReset_crcOut (cfg : Config) : (State.powerOnReset cfg).crcOut = 0 := rfl
@[simp] theorem powerOnReset_hdrType (cfg : Config) : (State.powerOnReset cfg).hdrType = 0 := rfl
@[simp] theorem powerOnReset_hdrClass (cfg : Config) : (State.powerOnReset cfg).hdrClass = 0 := rfl
@[simp] theorem powerOnReset_hdrMethod (cfg : Config) : (State.powerOnReset cfg).hdrMethod = 0 := rfl
@[simp] theorem powerOnReset_hdrLength (cfg : Config) : (State.powerOnReset cfg).hdrLength = 0 := rfl
@[simp] theorem powerOnReset_hdrCookie (cfg : Config) : (State.powerOnReset cfg).hdrCookie = 0 := rfl
@[simp] theorem powerOnReset_txid0 (cfg : Config) : (State.powerOnReset cfg).txid0 = 0 := rfl
@[simp] theorem powerOnReset_txid1 (cfg : Config) : (State.powerOnReset cfg).txid1 = 0 := rfl
@[simp] theorem powerOnReset_txid2 (cfg : Config) : (State.powerOnReset cfg).txid2 = 0 := rfl
@[simp] theorem powerOnReset_xaFamily (cfg : Config) : (State.powerOnReset cfg).xaFamily = 0 := rfl
@[simp] theorem powerOnReset_xaPort (cfg : Config) : (State.powerOnReset cfg).xaPort = 0 := rfl
@[simp] theorem powerOnReset_xaAddr0 (cfg : Config) : (State.powerOnReset cfg).xaAddr0 = 0 := rfl
@[simp] theorem powerOnReset_xaAddr1 (cfg : Config) : (State.powerOnReset cfg).xaAddr1 = 0 := rfl
@[simp] theorem powerOnReset_xaAddr2 (cfg : Config) : (State.powerOnReset cfg).xaAddr2 = 0 := rfl
@[simp] theorem powerOnReset_xaAddr3 (cfg : Config) : (State.powerOnReset cfg).xaAddr3 = 0 := rfl
@[simp] theorem powerOnReset_xaLen (cfg : Config) : (State.powerOnReset cfg).xaLen = 0 := rfl
@[simp] theorem powerOnReset_mem (cfg : Config) : (State.powerOnReset cfg).mem = [] := rfl
@[simp] theorem powerOnReset_ctx1 (cfg : Config) : (State.powerOnReset cfg).ctx1 = HashCtx.cleared Words5.zero := rfl
@[simp] theorem powerOnReset_ctx2 (cfg : Config) : (State.powerOnReset cfg).ctx2 = HashCtx.cleared Words8.zero := rfl
@[simp] theorem powerOnReset_eng (cfg : Config) : (State.powerOnReset cfg).eng = { state := .idle, cmd := 0 } := rfl
@[simp] theorem powerOnReset_host (cfg : Config) : (State.powerOnReset cfg).host = { pending := [], responses := [] } := rfl

/-! ## softReset -/

@[simp] theorem softReset_cfg (s : State) : (softReset s).cfg = s.cfg := rfl
@[simp] theorem softReset_irqEn (s : State) : (softReset s).irqEn = false := rfl
@[simp] theorem softReset_status (s : State) : (softReset s).status = Status.reset := rfl
@[simp] theorem softReset_srcOff (s : State) : (softReset s).srcOff = 0 := rfl
@[simp] theorem softReset_srcLen (s : State) : (softReset s).srcLen = 0 := rfl
@[simp] theorem softReset_dstOff (s : State) : (softReset s).dstOff = 0 := rfl
@[simp] theorem softReset_keyOff (s : State) : (softReset s).keyOff = 0 := rfl
@[simp] theorem softReset_keyLen (s : State) : (softReset s).keyLen = 0 := rfl
@[simp] theorem softReset_hdrOff (s : State) : (softReset s).hdrOff = 0 := rfl
@[simp] theorem softReset_digest (s : State) : (softReset s).digest = Words8.zero := rfl
@[simp] theorem softReset_crcOut (s : State) : (softReset s).crcOut = 0 := rfl
@[simp] theorem softReset_hdrType (s : State) : (softReset s).hdrType = 0 := rfl
@[simp] theorem softReset_hdrClass (s : State) : (softReset s).hdrClass = 0 := rfl
@[simp] theorem softReset_hdrMethod (s : State) : (softReset s).hdrMethod = 0 := rfl
@[simp] theorem softReset_hdrLength (s : State) : (softReset s).hdrLength = 0 := rfl
@[simp] theorem softReset_hdrCookie (s : State) : (softReset s).hdrCookie = 0 := rfl
@[simp] theorem softReset_txid0 (s : State) : (softReset s).txid0 = 0 := rfl
@[simp] theorem softReset_txid1 (s : State) : (softReset s).txid1 = 0 := rfl
@[simp] theorem softReset_txid2 (s : State) : (softReset s).txid2 = 0 := rfl
@[simp] theorem softReset_xaFamily (s : State) : (softReset s).xaFamily = 0 := rfl
@[simp] theorem softReset_xaPort (s : State) : (softReset s).xaPort = 0 := rfl
@[simp] theorem softReset_xaAddr0 (s : State) : (softReset s).xaAddr0 = 0 := rfl
@[simp] theorem softReset_xaAddr1 (s : State) : (softReset s).xaAddr1 = 0 := rfl
@[simp] theorem softReset_xaAddr2 (s : State) : (softReset s).xaAddr2 = 0 := rfl
@[simp] theorem softReset_xaAddr3 (s : State) : (softReset s).xaAddr3 = 0 := rfl
@[simp] theorem softReset_xaLen (s : State) : (softReset s).xaLen = 0 := rfl
@[simp] theorem softReset_mem (s : State) : (softReset s).mem = s.mem := rfl
@[simp] theorem softReset_ctx1 (s : State) : (softReset s).ctx1 = HashCtx.cleared Words5.zero := rfl
@[simp] theorem softReset_ctx2 (s : State) : (softReset s).ctx2 = HashCtx.cleared Words8.zero := rfl
@[simp] theorem softReset_eng (s : State) : (softReset s).eng = { state := .idle, cmd := 0 } := rfl
@[simp] theorem softReset_host (s : State) : (softReset s).host = s.host := rfl

/-! ## powerOnInput -/

@[simp] theorem powerOnInput_cfg (s : State) : (powerOnInput s).cfg = s.cfg := rfl
@[simp] theorem powerOnInput_irqEn (s : State) : (powerOnInput s).irqEn = false := rfl
@[simp] theorem powerOnInput_status (s : State) : (powerOnInput s).status = Status.reset := rfl
@[simp] theorem powerOnInput_srcOff (s : State) : (powerOnInput s).srcOff = 0 := rfl
@[simp] theorem powerOnInput_srcLen (s : State) : (powerOnInput s).srcLen = 0 := rfl
@[simp] theorem powerOnInput_dstOff (s : State) : (powerOnInput s).dstOff = 0 := rfl
@[simp] theorem powerOnInput_keyOff (s : State) : (powerOnInput s).keyOff = 0 := rfl
@[simp] theorem powerOnInput_keyLen (s : State) : (powerOnInput s).keyLen = 0 := rfl
@[simp] theorem powerOnInput_hdrOff (s : State) : (powerOnInput s).hdrOff = 0 := rfl
@[simp] theorem powerOnInput_digest (s : State) : (powerOnInput s).digest = Words8.zero := rfl
@[simp] theorem powerOnInput_crcOut (s : State) : (powerOnInput s).crcOut = 0 := rfl
@[simp] theorem powerOnInput_hdrType (s : State) : (powerOnInput s).hdrType = 0 := rfl
@[simp] theorem powerOnInput_hdrClass (s : State) : (powerOnInput s).hdrClass = 0 := rfl
@[simp] theorem powerOnInput_hdrMethod (s : State) : (powerOnInput s).hdrMethod = 0 := rfl
@[simp] theorem powerOnInput_hdrLength (s : State) : (powerOnInput s).hdrLength = 0 := rfl
@[simp] theorem powerOnInput_hdrCookie (s : State) : (powerOnInput s).hdrCookie = 0 := rfl
@[simp] theorem powerOnInput_txid0 (s : State) : (powerOnInput s).txid0 = 0 := rfl
@[simp] theorem powerOnInput_txid1 (s : State) : (powerOnInput s).txid1 = 0 := rfl
@[simp] theorem powerOnInput_txid2 (s : State) : (powerOnInput s).txid2 = 0 := rfl
@[simp] theorem powerOnInput_xaFamily (s : State) : (powerOnInput s).xaFamily = 0 := rfl
@[simp] theorem powerOnInput_xaPort (s : State) : (powerOnInput s).xaPort = 0 := rfl
@[simp] theorem powerOnInput_xaAddr0 (s : State) : (powerOnInput s).xaAddr0 = 0 := rfl
@[simp] theorem powerOnInput_xaAddr1 (s : State) : (powerOnInput s).xaAddr1 = 0 := rfl
@[simp] theorem powerOnInput_xaAddr2 (s : State) : (powerOnInput s).xaAddr2 = 0 := rfl
@[simp] theorem powerOnInput_xaAddr3 (s : State) : (powerOnInput s).xaAddr3 = 0 := rfl
@[simp] theorem powerOnInput_xaLen (s : State) : (powerOnInput s).xaLen = 0 := rfl
@[simp] theorem powerOnInput_mem (s : State) : (powerOnInput s).mem = [] := rfl
@[simp] theorem powerOnInput_ctx1 (s : State) : (powerOnInput s).ctx1 = HashCtx.cleared Words5.zero := rfl
@[simp] theorem powerOnInput_ctx2 (s : State) : (powerOnInput s).ctx2 = HashCtx.cleared Words8.zero := rfl
@[simp] theorem powerOnInput_eng (s : State) : (powerOnInput s).eng = { state := .idle, cmd := 0 } := rfl
@[simp] theorem powerOnInput_host (s : State) : (powerOnInput s).host = s.host := rfl

end Sys2Proof.Machine
end

