-- ==== Sys2Proof/Laws/Bus.lean ====
section
/-! SUPPORT. The host's two accesses, once: what an address decodes to, and every next state a write or a read can answer
(40_bus_and_control.md R99, R100; 30_encoding.md R85). -/

namespace Sys2Proof.Machine

theorem regRowAt_mem {off : BitVec 12} {row : RegRow} (h : regRowAt off = some row) : row ∈ regTable :=
  List.mem_of_find?_eq_some h

theorem regRowAt_offset {off : BitVec 12} {row : RegRow} (h : regRowAt off = some row) : row.offset = off := by
  simpa using List.find?_some h

theorem getLsbD_16_iff (a : BusAddr) : a.getLsbD 16 = true ↔ 0x10000 ≤ a.toNat := by
  have h := a.isLt
  rw [← BitVec.testBit_toNat, Nat.testBit_eq_decide_div_mod_eq, decide_eq_true_eq]
  omega

/-- A mapped register stands at its offset. -/
theorem busTarget_eq_reg {s : State} {a : BusAddr} {row : RegRow} (h : busTarget s a = .reg row) :
    row ∈ regTable ∧ a = row.offset.setWidth 17 := by
  simp only [busTarget] at h
  split at h
  · cases h
  · split at h
    · split at h <;> cases h
    · next h16 =>
      split at h
      · next h12 =>
        split at h
        · next r hr =>
          cases h
          refine ⟨regRowAt_mem hr, ?_⟩
          rw [regRowAt_offset hr]
          have h16' : ¬ 0x10000 ≤ a.toNat := by rw [← getLsbD_16_iff]; exact h16
          have h12' : (a.extractLsb' 12 4).toNat = 0 := by rw [h12]; rfl
          apply BitVec.eq_of_toNat_eq
          simp only [BitVec.extractLsb'_toNat, BitVec.toNat_setWidth, Nat.shiftRight_eq_div_pow] at *
          have hlt := a.isLt
          omega
        · cases h
      · cases h

/-- A MSGBUF word lies inside the buffer. -/
theorem busTarget_eq_msgWord {s : State} {a : BusAddr} {i : Nat} (h : busTarget s a = .msgWord i) :
    a.toNat = 0x10000 + 4 * i ∧ 4 * i < s.cfg.msgbufSize := by
  simp only [busTarget] at h
  split at h
  · cases h
  · next h0 =>
    split at h
    · next h16 =>
      split at h
      · next hlt =>
        cases h
        refine ⟨?_, hlt⟩
        rw [getLsbD_16_iff] at h16
        have h0' : (a.extractLsb' 0 2).toNat = 0 := by rw [not_not.1 h0]; rfl
        have ha := a.isLt
        simp only [BitVec.extractLsb'_toNat, Nat.shiftRight_eq_div_pow] at *
        omega
      · cases h
    · split at h
      · split at h <;> cases h
      · cases h

/-- Every answer of a bus write: refused with no effect; dropped while BUSY; performed on a MSGBUF word; performed on a register. -/
theorem busWrite_eq_next {a : BusAddr} {d : Word} {s t : State} (h : exec (.busWrite a d) s = .next t) :
    t = respond s .busErr ∨
    (s.eng.state = .busy ∧ droppedWhenBusy (busTarget s a) = true ∧ t = respond (setOvr s) .ok) ∨
    (∃ i, busTarget s a = .msgWord i ∧ s.eng.state = .idle ∧ t = respond (memWrite s (4 * i) (bytes32 d)) .ok) ∨
    (∃ row, busTarget s a = .reg row ∧ (s.eng.state = .idle ∨ droppedWhenBusy (.reg row) = false) ∧
      t = respond (writeReg s row.reg d) .ok) := by
  simp only [exec, execBusWrite] at h
  split at h
  · cases h; exact .inl rfl
  · next href =>
    split at h
    · next hb =>
      cases h
      simp only [busyFlag, Bool.and_eq_true, beq_iff_eq] at hb
      exact .inr (.inl ⟨hb.1, hb.2, rfl⟩)
    · next hb =>
      cases h
      have hidle : s.eng.state = .idle ∨ droppedWhenBusy (busTarget s a) = false := by
        cases he : s.eng.state with
        | idle => exact .inl rfl
        | busy => right; simpa [busyFlag, he] using hb
      cases ht : busTarget s a with
      | msgWord i => exact .inr (.inr (.inl ⟨i, rfl, by simpa [ht, droppedWhenBusy] using hidle, rfl⟩))
      | reg row => exact .inr (.inr (.inr ⟨row, rfl, by rwa [ht] at hidle, rfl⟩))
      | misaligned => rw [ht] at href; exact absurd rfl href
      | unmapped => rw [ht] at href; exact absurd rfl href

/-- A bus read changes nothing but the host's record of answers (20_memory.md R67). -/
theorem busRead_eq_next {a : BusAddr} {s t : State} (h : exec (.busRead a) s = .next t) : ∃ r, t = respond s r := by
  simp only [exec, execBusRead] at h
  split at h
  · split at h
    · cases h; exact ⟨_, rfl⟩
    · cases h
  all_goals (cases h; exact ⟨_, rfl⟩)

end Sys2Proof.Machine
end

