-- ==== Sys2Proof/Laws/Bytes.lean ====
section
/-! SUPPORT. The byte-order primitives (00_scope.md R10): lengths, and each conversion undone by its inverse. -/

namespace Sys2Proof.Machine

@[simp] theorem bytes16_length (v : Half) : (bytes16 v).length = 2 := rfl

@[simp] theorem bytes32_length (v : Word) : (bytes32 v).length = 4 := rfl

@[simp] theorem bytes64_length (v : Nat) : (bytes64 v).length = 8 := rfl

@[simp] theorem bytesOfWords5_length (h : Words5) : (bytesOfWords5 h).length = 20 := rfl

@[simp] theorem bytesOfWords8_length (h : Words8) : (bytesOfWords8 h).length = 32 := rfl

@[simp] theorem txidBytes_length (s : State) : (txidBytes s).length = 12 := rfl

@[simp] theorem headerBytes_length (s : State) : (headerBytes s).length = 20 := rfl

theorem slice_length (bs : List Byte) {i j : Nat} (hj : j ≤ bs.length) : (slice bs i j).length = j - i := by
  simp [slice]; omega

/-- Appending a byte, as the arithmetic of 00_scope.md R10. -/
theorem toNat_append_byte {n : Nat} (x : BitVec n) (y : Byte) : (x ++ y).toNat = x.toNat * 256 + y.toNat := by
  rw [BitVec.toNat_append, ← Nat.shiftLeft_add_eq_or_of_lt y.isLt, Nat.shiftLeft_eq]

/-- `be16(B) = B[0]*2^8 + B[1]` (R10). -/
theorem be16_toNat (bs : List Byte) : (be16 bs).toNat = (byteAt bs 0).toNat * 256 + (byteAt bs 1).toNat := by
  rw [be16, toNat_append_byte]

/-- `be32(B) = B[0]*2^24 + B[1]*2^16 + B[2]*2^8 + B[3]` (R10). -/
theorem be32_toNat (bs : List Byte) :
    (be32 bs).toNat =
      (((byteAt bs 0).toNat * 256 + (byteAt bs 1).toNat) * 256 + (byteAt bs 2).toNat) * 256 + (byteAt bs 3).toNat := by
  rw [be32, toNat_append_byte, toNat_append_byte, toNat_append_byte]

@[simp] theorem be16_bytes16 (v : Half) : be16 (bytes16 v) = v := by
  apply BitVec.eq_of_toNat_eq
  have h := v.isLt
  rw [be16_toNat]
  simp only [bytes16, byteAt, List.getD_cons_zero, List.getD_cons_succ, BitVec.extractLsb'_toNat, Nat.shiftRight_eq_div_pow]
  omega

@[simp] theorem be32_bytes32 (v : Word) : be32 (bytes32 v) = v := by
  apply BitVec.eq_of_toNat_eq
  have h := v.isLt
  rw [be32_toNat]
  simp only [bytes32, byteAt, List.getD_cons_zero, List.getD_cons_succ, BitVec.extractLsb'_toNat, Nat.shiftRight_eq_div_pow]
  omega

/-- `be64` undoes `bytes64` (R10); an integer below 2^64 comes back. -/
@[simp] theorem be64_bytes64 (v : Nat) : be64 (bytes64 v) = BitVec.ofNat 64 v := by
  apply BitVec.eq_of_toNat_eq
  rw [be64]
  simp only [toNat_append_byte, bytes64, bytes32, byteAt, List.cons_append, List.nil_append, List.getD_cons_zero,
    List.getD_cons_succ, BitVec.extractLsb'_toNat, BitVec.toNat_ofNat, Nat.shiftRight_eq_div_pow]
  omega

/-- A word of a sequence depends on its four bytes only. -/
theorem wordAt_eq (bs : List Byte) (k : Nat) :
    wordAt bs k = byteAt bs (4 * k) ++ byteAt bs (4 * k + 1) ++ byteAt bs (4 * k + 2) ++ byteAt bs (4 * k + 3) := by
  simp [wordAt, be32, slice, byteAt, List.getElem?_drop]

/-- DIGESTk = H[k] after a SHA-1-family command (10_state.md R39). -/
theorem digestRegs5_bytesOfWords5 (h : Words5) :
    digestRegs5 (bytesOfWords5 h) = ⟨h.w0, h.w1, h.w2, h.w3, h.w4, 0, 0, 0⟩ := by
  have e : ∀ k (v : Word), slice (bytesOfWords5 h) (4 * k) (4 * k + 4) = bytes32 v → wordAt (bytesOfWords5 h) k = v := by
    intro k v hv; rw [wordAt, hv, be32_bytes32]
  rw [digestRegs5, e 0 h.w0 rfl, e 1 h.w1 rfl, e 2 h.w2 rfl, e 3 h.w3 rfl, e 4 h.w4 rfl]

/-- DIGESTk = H[k] after a SHA-256-family command (10_state.md R39). -/
theorem digestRegs8_bytesOfWords8 (h : Words8) : digestRegs8 (bytesOfWords8 h) = h := by
  have e : ∀ k (v : Word), slice (bytesOfWords8 h) (4 * k) (4 * k + 4) = bytes32 v → wordAt (bytesOfWords8 h) k = v := by
    intro k v hv; rw [wordAt, hv, be32_bytes32]
  rw [digestRegs8, e 0 h.w0 rfl, e 1 h.w1 rfl, e 2 h.w2 rfl, e 3 h.w3 rfl, e 4 h.w4 rfl, e 5 h.w5 rfl, e 6 h.w6 rfl,
    e 7 h.w7 rfl]

end Sys2Proof.Machine
end

