-- ==== Sys2Proof/Laws/Memory.lean ====
section
/-! SUPPORT. MSGBUF: a write changes the byte it names and no other, reads over ranges, and every operation keeps the canonical form and
the bound (10_state.md R44). -/

namespace Sys2Proof.Machine

@[simp] theorem Memory.read_nil (a : Nat) : Memory.read [] a = none := rfl

theorem Memory.read_write_same (m : Memory) (a : Nat) (b : Byte) : Memory.read (Memory.write m a b) a = some b := by
  induction m with
  | nil => simp [Memory.write, Memory.read]
  | cons c rest ih =>
    obtain ⟨k, v⟩ := c
    unfold Memory.write
    split
    · simp [Memory.read]
    · split
      · simp [Memory.read]
      · next h1 h2 => simp [Memory.read, ih, Ne.symm h2]

theorem Memory.read_write_other (m : Memory) {a x : Nat} (b : Byte) (h : x ≠ a) :
    Memory.read (Memory.write m a b) x = Memory.read m x := by
  induction m with
  | nil => simp [Memory.write, Memory.read, Ne.symm h]
  | cons c rest ih =>
    obtain ⟨k, v⟩ := c
    unfold Memory.write
    split
    · simp [Memory.read, Ne.symm h]
    · split
      · next h1 h2 => subst h2; simp [Memory.read, Ne.symm h]
      · simp only [Memory.read, ih]

/-- What every offset reads as after a write of several bytes. -/
theorem Memory.read_writeBytes (bs : List Byte) (m : Memory) (off a : Nat) :
    Memory.read (Memory.writeBytes m off bs) a =
      if off ≤ a ∧ a < off + bs.length then bs[a - off]? else Memory.read m a := by
  induction bs generalizing m off with
  | nil => simp [Memory.writeBytes]
  | cons b rest ih =>
    simp only [Memory.writeBytes, ih, List.length_cons]
    by_cases h : a = off
    · subst h
      rw [if_neg (by omega), if_pos (by omega), Memory.read_write_same]; simp
    · by_cases h2 : off + 1 ≤ a ∧ a < off + 1 + rest.length
      · rw [if_pos h2, if_pos (by omega)]
        obtain ⟨k, rfl⟩ : ∃ k, a = off + 1 + k := ⟨a - (off + 1), by omega⟩
        have e1 : off + 1 + k - (off + 1) = k := by omega
        have e2 : off + 1 + k - off = k + 1 := by omega
        rw [e1, e2]; simp
      · rw [if_neg h2, if_neg (by omega), Memory.read_write_other _ _ h]

/-- The store of a result, at the granularity of one byte. -/
theorem Memory.afterStore_writeBytes (m : Memory) (off : Nat) (bs : List Byte) :
    Memory.afterStore (Memory.writeBytes m off bs) m true off bs := by
  intro a; simp [Memory.read_writeBytes]

theorem Memory.afterStore_none (m : Memory) (off : Nat) (bs : List Byte) : Memory.afterStore m m false off bs := by
  intro a; simp

/-- A range reads as `bs` exactly where each of its bytes is defined and is that of `bs`. -/
theorem Memory.readBytes_eq_some (n : Nat) (m : Memory) (off : Nat) (bs : List Byte) :
    Memory.readBytes m off n = some bs ↔ bs.length = n ∧ Memory.holds m off bs := by
  induction n generalizing off bs with
  | zero =>
    simp only [Memory.readBytes, Option.some.injEq]
    constructor
    · rintro rfl; exact ⟨rfl, by intro i hi; simp at hi⟩
    · rintro ⟨h, -⟩; exact (List.length_eq_zero_iff.1 h).symm
  | succ n ih =>
    rw [Memory.readBytes]
    constructor
    · intro h
      split at h
      · next b rest hb hr =>
        cases h
        obtain ⟨hl, hh⟩ := (ih _ _).1 hr
        refine ⟨by simp [hl], ?_⟩
        intro i hi
        cases i with
        | zero => simpa using hb
        | succ i =>
          have := hh i (by simpa using hi)
          simpa [Nat.add_assoc, Nat.add_comm 1] using this
      · cases h
    · rintro ⟨hl, hh⟩
      cases bs with
      | nil => simp at hl
      | cons b rest =>
        have h0 : Memory.read m off = some b := by simpa using hh 0 (by simp)
        have hr : Memory.readBytes m (off + 1) n = some rest := by
          refine (ih _ _).2 ⟨by simpa using hl, ?_⟩
          intro i hi
          have := hh (i + 1) (by simpa using hi)
          simpa [Nat.add_assoc, Nat.add_comm 1] using this
        rw [h0, hr]

/-- A range faults exactly where one of its bytes is undefined (20_memory.md R73). -/
theorem Memory.readBytes_eq_none (n : Nat) (m : Memory) (off : Nat) :
    Memory.readBytes m off n = none ↔ ∃ i, i < n ∧ Memory.read m (off + i) = none := by
  induction n generalizing off with
  | zero => simp [Memory.readBytes]
  | succ n ih =>
    rw [Memory.readBytes]
    cases h0 : Memory.read m off with
    | none => simp; exact ⟨0, by omega, by simpa using h0⟩
    | some b =>
      cases hr : Memory.readBytes m (off + 1) n with
      | none =>
        simp only [true_iff]
        obtain ⟨i, hi, hn⟩ := (ih _).1 hr
        exact ⟨i + 1, by omega, by rw [← hn]; congr 1; omega⟩
      | some rest =>
        simp only [reduceCtorEq, false_iff, not_exists, not_and]
        intro i hi hn
        cases i with
        | zero => simp [h0] at hn
        | succ i =>
          have : Memory.readBytes m (off + 1) n = none :=
            (ih _).2 ⟨i, by omega, by rw [← hn]; congr 1; omega⟩
          simp [hr] at this

theorem Memory.risingFrom_mono (m : Memory) {lo lo' : Nat} (h : lo' ≤ lo) (hm : Memory.risingFrom lo m = true) :
    Memory.risingFrom lo' m = true := by
  cases m with
  | nil => rfl
  | cons c rest =>
    obtain ⟨k, v⟩ := c
    simp only [Memory.risingFrom, Bool.and_eq_true, decide_eq_true_eq] at *
    exact ⟨by omega, hm.2⟩

theorem Memory.risingFrom_write (m : Memory) {lo a : Nat} (b : Byte) (ha : lo ≤ a) (hm : Memory.risingFrom lo m = true) :
    Memory.risingFrom lo (Memory.write m a b) = true := by
  induction m generalizing lo with
  | nil => simp [Memory.write, Memory.risingFrom, ha]
  | cons c rest ih =>
    obtain ⟨k, v⟩ := c
    simp only [Memory.risingFrom, Bool.and_eq_true, decide_eq_true_eq] at hm
    unfold Memory.write
    split
    · next h =>
      simp only [Memory.risingFrom, Bool.and_eq_true, decide_eq_true_eq]
      exact ⟨ha, by omega, hm.2⟩
    · split
      · next h1 h2 =>
        subst h2
        simp only [Memory.risingFrom, Bool.and_eq_true, decide_eq_true_eq]
        exact ⟨ha, hm.2⟩
      · next h1 h2 =>
        simp only [Memory.risingFrom, Bool.and_eq_true, decide_eq_true_eq]
        exact ⟨hm.1, ih (by omega) hm.2⟩

/-- A write keeps the canonical form. -/
theorem Memory.wf_write (m : Memory) (a : Nat) (b : Byte) (h : Memory.wf m = true) :
    Memory.wf (Memory.write m a b) = true :=
  Memory.risingFrom_write m b (Nat.zero_le a) h

/-- A write of several bytes keeps the canonical form. -/
theorem Memory.wf_writeBytes (bs : List Byte) (m : Memory) (off : Nat) (h : Memory.wf m = true) :
    Memory.wf (Memory.writeBytes m off bs) = true := by
  induction bs generalizing m off with
  | nil => exact h
  | cons b rest ih => exact ih _ _ (Memory.wf_write m off b h)

/-- A write inside the buffer keeps every offset inside it. -/
theorem Memory.below_write (m : Memory) {n a : Nat} (b : Byte) (ha : a < n) (h : Memory.below n m = true) :
    Memory.below n (Memory.write m a b) = true := by
  induction m with
  | nil => simp [Memory.write, Memory.below, ha]
  | cons c rest ih =>
    obtain ⟨k, v⟩ := c
    simp only [Memory.below, List.all_cons, Bool.and_eq_true, decide_eq_true_eq] at *
    unfold Memory.write
    split
    · simp only [List.all_cons, Bool.and_eq_true, decide_eq_true_eq]
      exact ⟨ha, h.1, h.2⟩
    · split
      · simp only [List.all_cons, Bool.and_eq_true, decide_eq_true_eq]
        exact ⟨ha, h.2⟩
      · simp only [List.all_cons, Bool.and_eq_true, decide_eq_true_eq]
        exact ⟨h.1, ih h.2⟩

/-- A write of a range inside the buffer keeps every offset inside it. -/
theorem Memory.below_writeBytes (bs : List Byte) (m : Memory) {n off : Nat} (ho : off + bs.length ≤ n)
    (h : Memory.below n m = true) : Memory.below n (Memory.writeBytes m off bs) = true := by
  induction bs generalizing m off with
  | nil => exact h
  | cons b rest ih =>
    simp only [List.length_cons] at ho
    exact ih _ (by omega) (Memory.below_write m b (by omega) h)

/-- The memory of the reset state is in its canonical form. -/
theorem reset_mem_wf : Memory.wf State.reset.mem = true := rfl

/-- In the canonical form an offset below the first listed one is undefined. -/
theorem Memory.read_below (m : Memory) {lo a : Nat} (h : Memory.risingFrom lo m = true) (ha : a < lo) :
    Memory.read m a = none := by
  induction m generalizing lo with
  | nil => rfl
  | cons c rest ih =>
    obtain ⟨k, v⟩ := c
    simp only [Memory.risingFrom, Bool.and_eq_true, decide_eq_true_eq] at h
    simp only [Memory.read]
    rw [if_neg (by omega)]
    exact ih h.2 (by omega)

/-- Equal canonical memories are equal data: two of them that read the same everywhere are the same list. -/
theorem Memory.ext_of_read (m m' : Memory) {lo : Nat} (h : Memory.risingFrom lo m = true) (h' : Memory.risingFrom lo m' = true)
    (hr : ∀ a, Memory.read m a = Memory.read m' a) : m = m' := by
  induction m generalizing m' lo with
  | nil =>
    cases m' with
    | nil => rfl
    | cons c rest => obtain ⟨k, v⟩ := c; have := hr k; simp [Memory.read] at this
  | cons c rest ih =>
    obtain ⟨k, v⟩ := c
    cases m' with
    | nil => have := hr k; simp [Memory.read] at this
    | cons c' rest' =>
      obtain ⟨k', v'⟩ := c'
      simp only [Memory.risingFrom, Bool.and_eq_true, decide_eq_true_eq] at h h'
      have hk : k = k' := by
        rcases Nat.lt_trichotomy k k' with hlt | heq | hgt
        · have := hr k
          simp only [Memory.read, if_true] at this
          rw [if_neg (by omega), Memory.read_below rest' h'.2 (by omega)] at this
          cases this
        · exact heq
        · have := hr k'
          simp only [Memory.read, if_true] at this
          rw [if_neg (by omega), Memory.read_below rest h.2 (by omega)] at this
          cases this
      subst hk
      have hv : v = v' := by have := hr k; simpa [Memory.read] using this
      subst hv
      congr 1
      refine ih rest' h.2 h'.2 ?_
      intro a
      by_cases ha : a = k
      · subst ha
        rw [Memory.read_below rest h.2 (by omega), Memory.read_below rest' h'.2 (by omega)]
      · have := hr a
        simpa [Memory.read, Ne.symm ha] using this

end Sys2Proof.Machine
end

