-- ==== Sys2Proof/Laws/Ops.lean ====
section
/-! SUPPORT. For each shared operation, once, everything it can answer: the checks, the reads, the STORE write and the completion
(40_bus_and_control.md R109-R113). -/

namespace Sys2Proof.Machine

theorem inRange_iff (s : State) (r : MsgRange) : inRange s r = true ↔ r.off + r.len ≤ s.cfg.msgbufSize := by
  simp [inRange]

/-! ## Checks and reads -/

theorem require_eq_ok {c : Bool} {e : ErrCode} {k : ExecResult} {s' : State} :
    require c e k = .ok s' ↔ c = true ∧ k = .ok s' := by
  cases c <;> simp [require]

theorem require_eq_error {c : Bool} {e e' : ErrCode} {k : ExecResult} :
    require c e k = .error e' ↔ (c = false ∧ e = e') ∨ (c = true ∧ k = .error e') := by
  cases c <;> simp [require]

theorem require_eq_fault {c : Bool} {e : ErrCode} {k : ExecResult} {f : Fault} :
    require c e k = .fault f ↔ c = true ∧ k = .fault f := by
  cases c <;> simp [require]

theorem requireRange_eq_fault {s : State} {r : MsgRange} {k : ExecResult} {f : Fault} :
    requireRange s r k = .fault f ↔ r.off + r.len ≤ s.cfg.msgbufSize ∧ k = .fault f := by
  rw [requireRange, require_eq_fault, inRange_iff]

theorem requireRange_eq_ok {s s' : State} {r : MsgRange} {k : ExecResult} :
    requireRange s r k = .ok s' ↔ r.off + r.len ≤ s.cfg.msgbufSize ∧ k = .ok s' := by
  rw [requireRange, require_eq_ok, inRange_iff]

theorem requireRange_pass {s : State} {r : MsgRange} (k : ExecResult) (h : r.off + r.len ≤ s.cfg.msgbufSize) :
    requireRange s r k = k := by
  simp [requireRange, require, inRange, h]

theorem requireRange_stop {s : State} {r : MsgRange} (k : ExecResult) (h : s.cfg.msgbufSize < r.off + r.len) :
    requireRange s r k = .error .range := by
  simp [requireRange, require, inRange, Nat.not_le.2 h]

theorem requireStore_eq_ok {store : Bool} {s s' : State} {n : Nat} {k : ExecResult} :
    requireStore store s n k = .ok s' ↔
      (store = true → s.dstOff.toNat + n ≤ s.cfg.msgbufSize) ∧ k = .ok s' := by
  cases store <;> simp [requireStore, requireRange_eq_ok, dstRange]

theorem requireStore_eq_fault {store : Bool} {s : State} {n : Nat} {k : ExecResult} {f : Fault} :
    requireStore store s n k = .fault f ↔ (store = true → s.dstOff.toNat + n ≤ s.cfg.msgbufSize) ∧ k = .fault f := by
  cases store <;> simp [requireStore, requireRange_eq_fault, dstRange]

theorem requireStore_pass {store : Bool} {s : State} {n : Nat} (k : ExecResult)
    (h : store = true → s.dstOff.toNat + n ≤ s.cfg.msgbufSize) : requireStore store s n k = k := by
  cases store with
  | false => rfl
  | true => exact requireRange_pass k (h rfl)

theorem requireStore_stop {s : State} {n : Nat} (k : ExecResult) (h : s.cfg.msgbufSize < s.dstOff.toNat + n) :
    requireStore true s n k = .error .range :=
  requireRange_stop k h

theorem withBytes_eq_ok {o : Option (List Byte)} {k : List Byte → ExecResult} {s' : State} :
    withBytes o k = .ok s' ↔ ∃ bs, o = some bs ∧ k bs = .ok s' := by
  cases o <;> simp [withBytes]

theorem withBytes_eq_error {o : Option (List Byte)} {k : List Byte → ExecResult} {e : ErrCode} :
    withBytes o k = .error e ↔ ∃ bs, o = some bs ∧ k bs = .error e := by
  cases o <;> simp [withBytes]

/-- A read faults where its bytes are undefined, or goes on to what faults. -/
theorem withBytes_eq_fault {o : Option (List Byte)} {k : List Byte → ExecResult} {f : Fault} :
    withBytes o k = .fault f ↔ o = none ∨ ∃ bs, o = some bs ∧ k bs = .fault f := by
  cases f; cases o <;> simp [withBytes]

@[simp] theorem withBytes_some (bs : List Byte) (k : List Byte → ExecResult) : withBytes (some bs) k = k bs := rfl

@[simp] theorem withBytes_none (k : List Byte → ExecResult) : withBytes none k = .fault .undefinedByte := rfl

/-- A range reads as `bs` exactly where its bytes are defined and those of `bs`. -/
theorem memRead_eq_some {s : State} {r : MsgRange} {bs : List Byte} :
    memRead s r = some bs ↔ bs.length = r.len ∧ Memory.holds s.mem r.off bs :=
  Memory.readBytes_eq_some _ _ _ _

/-- A range faults exactly where a byte of it is undefined (20_memory.md R73). -/
theorem memRead_eq_none {s : State} {r : MsgRange} :
    memRead s r = none ↔ ∃ i, i < r.len ∧ Memory.read s.mem (r.off + i) = none :=
  Memory.readBytes_eq_none _ _ _

/-! ## The STORE write -/

/-- STORE writes MSGBUF only. -/
theorem storeResult_eq (store : Bool) (bs : List Byte) (s : State) :
    storeResult store bs s = { s with mem := (storeResult store bs s).mem } := by
  cases store <;> rfl

/-- What MSGBUF reads as after STORE. -/
theorem storeResult_mem (store : Bool) (bs : List Byte) (s : State) :
    Memory.afterStore (storeResult store bs s).mem s.mem store s.dstOff.toNat bs := by
  cases store with
  | false => exact Memory.afterStore_none _ _ _
  | true => exact Memory.afterStore_writeBytes _ _ _

theorem storeResult_mem_wf (store : Bool) (bs : List Byte) (s : State) (h : Memory.wf s.mem = true) :
    Memory.wf (storeResult store bs s).mem = true := by
  cases store with
  | false => exact h
  | true => exact Memory.wf_writeBytes _ _ _ h

theorem storeResult_mem_below (store : Bool) (bs : List Byte) (s : State) {n : Nat}
    (ho : store = true → s.dstOff.toNat + bs.length ≤ n) (h : Memory.below n s.mem = true) :
    Memory.below n (storeResult store bs s).mem = true := by
  cases store with
  | false => exact h
  | true => exact Memory.below_writeBytes _ _ (ho rfl) h

/-! ## Completion -/

/-- A completion with code OK, in the statements' terms (60_exceptions.md R164). -/
theorem complete_ok (op : Byte) (s : State) : complete op .ok s = s.succeeded op := by
  simp [complete, State.succeeded]

/-- A completion with another code, in the statements' terms (60_exceptions.md R164). -/
theorem complete_failed (op : Byte) {code : ErrCode} (s : State) (h : code ≠ .ok) : complete op code s = s.failed op code := by
  simp [complete, State.failed, h]

/-- Everything a completion can answer as a next state (40_bus_and_control.md R113). -/
theorem finishWith_eq_next {op : Byte} {onFail : Status → Status} {s t : State} {r : ExecResult} :
    finishWith op onFail s r = .next t ↔
      (∃ s', r = .ok s' ∧ t = complete op .ok s') ∨
      (∃ code, r = .error code ∧ t = complete op code { s with status := onFail s.status }) := by
  cases r <;> simp [finishWith, eq_comm]

/-- A command's step faults exactly where its EXEC rule does (20_memory.md R73). -/
theorem finishWith_eq_fault {op : Byte} {onFail : Status → Status} {s : State} {r : ExecResult} {f : Fault} :
    finishWith op onFail s r = .fault f ↔ r = .fault f := by
  cases r <;> simp [finishWith]

/-- No command is refused (60_exceptions.md R173). -/
theorem finishWith_ne_refused (op : Byte) (onFail : Status → Status) (s : State) (r : ExecResult) (x : Refusal) :
    finishWith op onFail s r ≠ .refused x := by
  cases r <;> simp [finishWith]

@[simp] theorem finish_ok (op : Byte) (s s' : State) : finish op s (.ok s') = .next (s'.succeeded op) := by
  simp [finish, finishWith, complete_ok]

@[simp] theorem finish_fault (op : Byte) (s : State) (f : Fault) : finish op s (.fault f) = .fault f := rfl

theorem finish_error (op : Byte) (s : State) {code : ErrCode} (h : code ≠ .ok) :
    finish op s (.error code) = .next (s.failed op code) := by
  simp [finish, finishWith, complete_failed op _ h]

theorem finish_eq_next {op : Byte} {s t : State} {r : ExecResult} :
    finish op s r = .next t ↔
      (∃ s', r = .ok s' ∧ t = complete op .ok s') ∨ (∃ code, r = .error code ∧ t = complete op code s) := by
  cases r <;> simp [finish, finishWith, eq_comm]

end Sys2Proof.Machine
end

