-- ==== Sys2Proof/Laws/Commands.lean ====
section
/-! SUPPORT. For each EXEC rule, once, everything it can answer with code OK, that its error is never the code OK, and where it can fault
(40_bus_and_control.md R109, R110; 20_memory.md R65, R73); and every command as the completion of its rule. -/

namespace Sys2Proof.Machine

/-! ## An error is never the code OK -/

theorem require_ne_error_ok {c : Bool} {e : ErrCode} {k : ExecResult} (he : e ≠ .ok) (hk : k ≠ .error .ok) :
    require c e k ≠ .error .ok := by
  cases c <;> simp [require, he, hk]

theorem requireRange_ne_error_ok {s : State} {r : MsgRange} {k : ExecResult} (hk : k ≠ .error .ok) :
    requireRange s r k ≠ .error .ok :=
  require_ne_error_ok (by simp) hk

theorem requireStore_ne_error_ok {store : Bool} {s : State} {n : Nat} {k : ExecResult} (hk : k ≠ .error .ok) :
    requireStore store s n k ≠ .error .ok := by
  cases store with
  | false => exact hk
  | true => exact requireRange_ne_error_ok hk

theorem withBytes_ne_error_ok {o : Option (List Byte)} {k : List Byte → ExecResult} (hk : ∀ bs, k bs ≠ .error .ok) :
    withBytes o k ≠ .error .ok := by
  cases o with
  | none => simp
  | some bs => exact hk bs

theorem sha1UpdateRule_ne_error_ok (s : State) : sha1UpdateRule s ≠ .error .ok :=
  requireRange_ne_error_ok (require_ne_error_ok (by simp) (require_ne_error_ok (by simp) (withBytes_ne_error_ok (by simp))))

theorem sha1FinalRule_ne_error_ok (store : Bool) (s : State) : sha1FinalRule store s ≠ .error .ok :=
  requireStore_ne_error_ok (require_ne_error_ok (by simp) (by simp))

theorem sha1Rule_ne_error_ok (store : Bool) (s : State) : sha1Rule store s ≠ .error .ok :=
  requireRange_ne_error_ok (requireStore_ne_error_ok (withBytes_ne_error_ok (by simp)))

theorem sha256UpdateRule_ne_error_ok (s : State) : sha256UpdateRule s ≠ .error .ok :=
  requireRange_ne_error_ok (require_ne_error_ok (by simp) (require_ne_error_ok (by simp) (withBytes_ne_error_ok (by simp))))

theorem sha256FinalRule_ne_error_ok (store : Bool) (s : State) : sha256FinalRule store s ≠ .error .ok :=
  requireStore_ne_error_ok (require_ne_error_ok (by simp) (by simp))

theorem sha256Rule_ne_error_ok (store : Bool) (s : State) : sha256Rule store s ≠ .error .ok :=
  requireRange_ne_error_ok (requireStore_ne_error_ok (withBytes_ne_error_ok (by simp)))

theorem hmacSha1Rule_ne_error_ok (store : Bool) (s : State) : hmacSha1Rule store s ≠ .error .ok :=
  requireRange_ne_error_ok (requireRange_ne_error_ok (requireStore_ne_error_ok
    (withBytes_ne_error_ok fun _ => withBytes_ne_error_ok (by simp))))

theorem hmacSha256Rule_ne_error_ok (store : Bool) (s : State) : hmacSha256Rule store s ≠ .error .ok :=
  requireRange_ne_error_ok (requireRange_ne_error_ok (requireStore_ne_error_ok
    (withBytes_ne_error_ok fun _ => withBytes_ne_error_ok (by simp))))

theorem crc32Rule_ne_error_ok (store : Bool) (s : State) : crc32Rule store s ≠ .error .ok :=
  requireRange_ne_error_ok (requireStore_ne_error_ok (withBytes_ne_error_ok (by simp)))

theorem fingerprintRule_ne_error_ok (store : Bool) (s : State) : fingerprintRule store s ≠ .error .ok :=
  requireRange_ne_error_ok (requireStore_ne_error_ok (withBytes_ne_error_ok (by simp)))

theorem fpVerifyRule_ne_error_ok (s : State) : fpVerifyRule s ≠ .error .ok :=
  requireRange_ne_error_ok (require_ne_error_ok (by simp) (withBytes_ne_error_ok (by simp)))

theorem hdrEncodeRule_ne_error_ok (s : State) : hdrEncodeRule s ≠ .error .ok :=
  requireRange_ne_error_ok (by simp)

theorem hdrDecodeRule_ne_error_ok (s : State) : hdrDecodeRule s ≠ .error .ok :=
  requireRange_ne_error_ok (require_ne_error_ok (by simp) (withBytes_ne_error_ok fun _ =>
    require_ne_error_ok (by simp) (require_ne_error_ok (by simp) (require_ne_error_ok (by simp)
      (require_ne_error_ok (by simp) (by simp))))))

theorem xaddrEncodeRule_ne_error_ok (s : State) : xaddrEncodeRule s ≠ .error .ok :=
  require_ne_error_ok (by simp) (requireRange_ne_error_ok (requireRange_ne_error_ok (withBytes_ne_error_ok (by simp))))

theorem xaddrDecodeRule_ne_error_ok (s : State) : xaddrDecodeRule s ≠ .error .ok :=
  requireRange_ne_error_ok (requireRange_ne_error_ok (require_ne_error_ok (by simp) (withBytes_ne_error_ok fun _ =>
    require_ne_error_ok (by simp) (require_ne_error_ok (by simp) (withBytes_ne_error_ok fun _ =>
      withBytes_ne_error_ok (by simp))))))

/-! ## What each rule answers with code OK -/

theorem ok_eq_ok {a b : State} : ExecResult.ok a = .ok b ↔ b = a := by
  rw [ExecResult.ok.injEq, eq_comm]

/-- SHA1_UPDATE with code OK (41_sha1.md R121). -/
theorem sha1UpdateRule_eq_ok {s s' : State} :
    sha1UpdateRule s = .ok s' ↔
      s.srcOff.toNat + s.srcLen.toNat ≤ s.cfg.msgbufSize ∧ s.ctx1.valid = true ∧
      s.ctx1.n + s.srcLen.toNat ≤ maxStreamBytes ∧
      ∃ m, memRead s (srcRange s) = some m ∧ s' = { s with ctx1 := absorb compress1 s.ctx1 m } := by
  simp only [sha1UpdateRule, decide_eq_true_eq, requireRange_eq_ok, require_eq_ok, withBytes_eq_ok, srcRange, ok_eq_ok]

/-- SHA1_FINAL with code OK (41_sha1.md R122). -/
theorem sha1FinalRule_eq_ok {store : Bool} {s s' : State} :
    sha1FinalRule store s = .ok s' ↔
      (store = true → s.dstOff.toNat + 20 ≤ s.cfg.msgbufSize) ∧ s.ctx1.valid = true ∧
      s' = storeResult store (bytesOfWords5 (sha1StreamWords s))
        { s with digest := digestRegs5 (bytesOfWords5 (sha1StreamWords s)), ctx1 := HashCtx.cleared Words5.zero } := by
  simp only [sha1FinalRule, requireStore_eq_ok, require_eq_ok, ok_eq_ok]

/-- SHA1 with code OK (41_sha1.md R123). -/
theorem sha1Rule_eq_ok {store : Bool} {s s' : State} :
    sha1Rule store s = .ok s' ↔
      s.srcOff.toNat + s.srcLen.toNat ≤ s.cfg.msgbufSize ∧ (store = true → s.dstOff.toNat + 20 ≤ s.cfg.msgbufSize) ∧
      ∃ m, memRead s (srcRange s) = some m ∧
        s' = storeResult store (sha1Digest m) { s with digest := digestRegs5 (sha1Digest m) } := by
  simp only [sha1Rule, requireRange_eq_ok, requireStore_eq_ok, withBytes_eq_ok, srcRange, ok_eq_ok]

/-- SHA256_UPDATE with code OK (42_sha256.md R134). -/
theorem sha256UpdateRule_eq_ok {s s' : State} :
    sha256UpdateRule s = .ok s' ↔
      s.srcOff.toNat + s.srcLen.toNat ≤ s.cfg.msgbufSize ∧ s.ctx2.valid = true ∧
      s.ctx2.n + s.srcLen.toNat ≤ maxStreamBytes ∧
      ∃ m, memRead s (srcRange s) = some m ∧ s' = { s with ctx2 := absorb compress2 s.ctx2 m } := by
  simp only [sha256UpdateRule, decide_eq_true_eq, requireRange_eq_ok, require_eq_ok, withBytes_eq_ok, srcRange, ok_eq_ok]

/-- SHA256_FINAL with code OK (42_sha256.md R135). -/
theorem sha256FinalRule_eq_ok {store : Bool} {s s' : State} :
    sha256FinalRule store s = .ok s' ↔
      (store = true → s.dstOff.toNat + 32 ≤ s.cfg.msgbufSize) ∧ s.ctx2.valid = true ∧
      s' = storeResult store (bytesOfWords8 (sha256StreamWords s))
        { s with digest := digestRegs8 (bytesOfWords8 (sha256StreamWords s)), ctx2 := HashCtx.cleared Words8.zero } := by
  simp only [sha256FinalRule, requireStore_eq_ok, require_eq_ok, ok_eq_ok]

/-- SHA256 with code OK (42_sha256.md R136). -/
theorem sha256Rule_eq_ok {store : Bool} {s s' : State} :
    sha256Rule store s = .ok s' ↔
      s.srcOff.toNat + s.srcLen.toNat ≤ s.cfg.msgbufSize ∧ (store = true → s.dstOff.toNat + 32 ≤ s.cfg.msgbufSize) ∧
      ∃ m, memRead s (srcRange s) = some m ∧
        s' = storeResult store (sha256Digest m) { s with digest := digestRegs8 (sha256Digest m) } := by
  simp only [sha256Rule, requireRange_eq_ok, requireStore_eq_ok, withBytes_eq_ok, srcRange, ok_eq_ok]

/-- HMAC_SHA1 with code OK (43_hmac.md R140). -/
theorem hmacSha1Rule_eq_ok {store : Bool} {s s' : State} :
    hmacSha1Rule store s = .ok s' ↔
      s.srcOff.toNat + s.srcLen.toNat ≤ s.cfg.msgbufSize ∧ s.keyOff.toNat + s.keyLen.toNat ≤ s.cfg.msgbufSize ∧
      (store = true → s.dstOff.toNat + 20 ≤ s.cfg.msgbufSize) ∧
      ∃ m, memRead s (srcRange s) = some m ∧ ∃ kb, memRead s (keyRange s) = some kb ∧
        s' = storeResult store (hmac sha1Digest kb m) { s with digest := digestRegs5 (hmac sha1Digest kb m) } := by
  simp only [hmacSha1Rule, requireRange_eq_ok, requireStore_eq_ok, withBytes_eq_ok, srcRange, keyRange, ok_eq_ok]

/-- HMAC_SHA256 with code OK (43_hmac.md R141). -/
theorem hmacSha256Rule_eq_ok {store : Bool} {s s' : State} :
    hmacSha256Rule store s = .ok s' ↔
      s.srcOff.toNat + s.srcLen.toNat ≤ s.cfg.msgbufSize ∧ s.keyOff.toNat + s.keyLen.toNat ≤ s.cfg.msgbufSize ∧
      (store = true → s.dstOff.toNat + 32 ≤ s.cfg.msgbufSize) ∧
      ∃ m, memRead s (srcRange s) = some m ∧ ∃ kb, memRead s (keyRange s) = some kb ∧
        s' = storeResult store (hmac sha256Digest kb m) { s with digest := digestRegs8 (hmac sha256Digest kb m) } := by
  simp only [hmacSha256Rule, requireRange_eq_ok, requireStore_eq_ok, withBytes_eq_ok, srcRange, keyRange, ok_eq_ok]

/-- CRC32 with code OK (46_crc32.md R159). -/
theorem crc32Rule_eq_ok {store : Bool} {s s' : State} :
    crc32Rule store s = .ok s' ↔
      s.srcOff.toNat + s.srcLen.toNat ≤ s.cfg.msgbufSize ∧ (store = true → s.dstOff.toNat + 4 ≤ s.cfg.msgbufSize) ∧
      ∃ m, memRead s (srcRange s) = some m ∧ s' = storeResult store (bytes32 (crc32 m)) { s with crcOut := crc32 m } := by
  simp only [crc32Rule, requireRange_eq_ok, requireStore_eq_ok, withBytes_eq_ok, srcRange, ok_eq_ok]

/-- FINGERPRINT with code OK (46_crc32.md R160). -/
theorem fingerprintRule_eq_ok {store : Bool} {s s' : State} :
    fingerprintRule store s = .ok s' ↔
      s.srcOff.toNat + s.srcLen.toNat ≤ s.cfg.msgbufSize ∧ (store = true → s.dstOff.toNat + 4 ≤ s.cfg.msgbufSize) ∧
      ∃ m, memRead s (srcRange s) = some m ∧
        s' = storeResult store (bytes32 (fingerprintValue m)) { s with crcOut := fingerprintValue m } := by
  simp only [fingerprintRule, requireRange_eq_ok, requireStore_eq_ok, withBytes_eq_ok, srcRange, ok_eq_ok]

/-- FP_VERIFY with code OK (46_crc32.md R161). -/
theorem fpVerifyRule_eq_ok {s s' : State} :
    fpVerifyRule s = .ok s' ↔
      s.srcOff.toNat + s.srcLen.toNat ≤ s.cfg.msgbufSize ∧ 8 ≤ s.srcLen.toNat ∧
      ∃ m, memRead s (srcRange s) = some m ∧
        s' = { s with crcOut := fpRecomputed m, status := setFpMatch (fpMatches m) s.status } := by
  simp only [fpVerifyRule, decide_eq_true_eq, requireRange_eq_ok, require_eq_ok, withBytes_eq_ok, srcRange, ok_eq_ok]

/-- HDR_ENCODE with code OK (44_stun_header.md R147). -/
theorem hdrEncodeRule_eq_ok {s s' : State} :
    hdrEncodeRule s = .ok s' ↔
      s.dstOff.toNat + 20 ≤ s.cfg.msgbufSize ∧
      s' = memWrite { s with hdrType := messageType s.hdrClass s.hdrMethod } s.dstOff.toNat (headerBytes s) := by
  simp only [hdrEncodeRule, requireRange_eq_ok, dstRange, ok_eq_ok]

/-- HDR_DECODE with code OK (44_stun_header.md R149, R150). -/
theorem hdrDecodeRule_eq_ok {s s' : State} :
    hdrDecodeRule s = .ok s' ↔
      s.srcOff.toNat + s.srcLen.toNat ≤ s.cfg.msgbufSize ∧ 20 ≤ s.srcLen.toNat ∧
      ∃ h, memRead s (hdrSourceRange s) = some h ∧ (headerType h).extractLsb' 14 2 = 0 ∧
        (headerLength h).toNat % 4 = 0 ∧ 20 + (headerLength h).toNat = s.srcLen.toNat ∧ headerCookie h = magicCookie ∧
        s' = { decodedHeader s h with status := setHdrValid true s.status } := by
  simp only [hdrDecodeRule, beq_iff_eq, decide_eq_true_eq, requireRange_eq_ok, require_eq_ok, withBytes_eq_ok, srcRange, ok_eq_ok]

/-- XADDR_ENCODE with code OK (45_xor_address.md R154). -/
theorem xaddrEncodeRule_eq_ok {s s' : State} :
    xaddrEncodeRule s = .ok s' ↔
      knownFamily s.xaFamily = true ∧ s.hdrOff.toNat + 4 + 16 ≤ s.cfg.msgbufSize ∧
      s.dstOff.toNat + (4 + addressLen s.xaFamily) ≤ s.cfg.msgbufSize ∧
      ∃ k, memRead s (hdrKeyRange s) = some k ∧
        s' = memWrite { s with xaLen := BitVec.ofNat 8 (4 + addressLen s.xaFamily) } s.dstOff.toNat (xorValue s k) := by
  simp only [xaddrEncodeRule, requireRange_eq_ok, require_eq_ok, withBytes_eq_ok, hdrKeyRange, dstRange, ok_eq_ok]

/-- XADDR_DECODE with code OK (45_xor_address.md R155). -/
theorem xaddrDecodeRule_eq_ok {s s' : State} :
    xaddrDecodeRule s = .ok s' ↔
      s.srcOff.toNat + s.srcLen.toNat ≤ s.cfg.msgbufSize ∧ s.hdrOff.toNat + 4 + 16 ≤ s.cfg.msgbufSize ∧
      4 ≤ s.srcLen.toNat ∧
      ∃ fb, memRead s (familyByteRange s) = some fb ∧ knownFamily (byteAt fb 0) = true ∧
        s.srcLen.toNat = 4 + addressLen (byteAt fb 0) ∧
        ∃ v, memRead s (portAddressRange s (addressLen (byteAt fb 0))) = some v ∧
        ∃ k, memRead s (hdrKeyRange s) = some k ∧ s' = decodedAddress s (byteAt fb 0) v k := by
  simp only [xaddrDecodeRule, decide_eq_true_eq, requireRange_eq_ok, require_eq_ok, withBytes_eq_ok, srcRange, hdrKeyRange, ok_eq_ok]

/-! ## All commands at once -/

/-- The failure's status effect of a command (60_exceptions.md R165). -/
def onFail (i : Instr) : Status → Status :=
  match i with
  | .hdrDecode => setHdrValid false
  | .fpVerify => setFpMatch false
  | _ => id

/-- The EXEC rule of a command (40_bus_and_control.md R109). -/
def rule (i : Instr) (s : State) : ExecResult :=
  match i with
  | .nop => .ok s
  | .sha1Init => sha1InitRule s
  | .sha1Update => sha1UpdateRule s
  | .sha1Final st => sha1FinalRule st s
  | .sha1 st => sha1Rule st s
  | .sha256Init => sha256InitRule s
  | .sha256Update => sha256UpdateRule s
  | .sha256Final st => sha256FinalRule st s
  | .sha256 st => sha256Rule st s
  | .hmacSha1 st => hmacSha1Rule st s
  | .hmacSha256 st => hmacSha256Rule st s
  | .crc32 st => crc32Rule st s
  | .fingerprint st => fingerprintRule st s
  | .fpVerify => fpVerifyRule s
  | .hdrEncode => hdrEncodeRule s
  | .hdrDecode => hdrDecodeRule s
  | .xaddrEncode => xaddrEncodeRule s
  | .xaddrDecode => xaddrDecodeRule s
  | _ => .ok s

/-- A command's meaning is the completion of its EXEC rule (R109, R113). -/
theorem exec_eq_finishWith (i : Instr) (op : Byte) (s : State) (h : i.opcode = some op) :
    exec i s = finishWith op (onFail i) s (rule i s) := by
  cases i <;> simp only [Instr.opcode, encode, Option.some.injEq, reduceCtorEq] at h <;>
    (try (rename_i st; cases st)) <;> subst h <;> rfl

/-- No EXEC rule ends with an error that is the code OK. -/
theorem rule_ne_error_ok (i : Instr) (s : State) : rule i s ≠ .error .ok := by
  cases i <;> simp only [rule]
  case nop => simp
  case sha1Init => simp [sha1InitRule]
  case sha256Init => simp [sha256InitRule]
  case busWrite => simp
  case busRead => simp
  case sha1Update => exact sha1UpdateRule_ne_error_ok s
  case sha1Final => exact sha1FinalRule_ne_error_ok _ s
  case sha1 => exact sha1Rule_ne_error_ok _ s
  case sha256Update => exact sha256UpdateRule_ne_error_ok s
  case sha256Final => exact sha256FinalRule_ne_error_ok _ s
  case sha256 => exact sha256Rule_ne_error_ok _ s
  case hmacSha1 => exact hmacSha1Rule_ne_error_ok _ s
  case hmacSha256 => exact hmacSha256Rule_ne_error_ok _ s
  case crc32 => exact crc32Rule_ne_error_ok _ s
  case fingerprint => exact fingerprintRule_ne_error_ok _ s
  case fpVerify => exact fpVerifyRule_ne_error_ok s
  case hdrEncode => exact hdrEncodeRule_ne_error_ok s
  case hdrDecode => exact hdrDecodeRule_ne_error_ok s
  case xaddrEncode => exact xaddrEncodeRule_ne_error_ok s
  case xaddrDecode => exact xaddrDecodeRule_ne_error_ok s

/-- An EXEC rule faults only where a range inside MSGBUF that R65 lets the instruction read holds an undefined byte (20_memory.md R65,
R72, R73). -/
theorem rule_eq_fault {i : Instr} {s : State} {f : Fault} (h : rule i s = .fault f) :
    ∃ r ∈ i.reads s, r.off + r.len ≤ s.cfg.msgbufSize ∧ memRead s r = none := by
  cases i <;> simp only [rule, sha1InitRule, sha1UpdateRule, sha1FinalRule, sha1Rule, sha256InitRule, sha256UpdateRule,
    sha256FinalRule, sha256Rule, hmacSha1Rule, hmacSha256Rule, crc32Rule, fingerprintRule, fpVerifyRule, hdrEncodeRule,
    hdrDecodeRule, xaddrEncodeRule, xaddrDecodeRule, requireRange_eq_fault, requireStore_eq_fault, require_eq_fault,
    withBytes_eq_fault, decide_eq_true_eq, reduceCtorEq, and_false, exists_false, or_false] at h
  case sha1Update => exact ⟨_, .head _, h.1, h.2.2.2⟩
  case sha256Update => exact ⟨_, .head _, h.1, h.2.2.2⟩
  case sha1 => exact ⟨_, .head _, h.1, h.2.2⟩
  case sha256 => exact ⟨_, .head _, h.1, h.2.2⟩
  case crc32 => exact ⟨_, .head _, h.1, h.2.2⟩
  case fingerprint => exact ⟨_, .head _, h.1, h.2.2⟩
  case fpVerify => exact ⟨_, .head _, h.1, h.2.2⟩
  case hmacSha1 =>
    obtain ⟨hs, hk, -, hm | ⟨-, -, hm⟩⟩ := h
    · exact ⟨_, .tail _ (.head _), hs, hm⟩
    · exact ⟨_, .head _, hk, hm⟩
  case hmacSha256 =>
    obtain ⟨hs, hk, -, hm | ⟨-, -, hm⟩⟩ := h
    · exact ⟨_, .tail _ (.head _), hs, hm⟩
    · exact ⟨_, .head _, hk, hm⟩
  case hdrDecode =>
    obtain ⟨hs, h20, hm⟩ := h
    simp only [srcRange] at hs
    exact ⟨hdrSourceRange s, by simp [Instr.reads, h20], by simp only [hdrSourceRange]; omega, hm⟩
  case xaddrEncode => exact ⟨_, .head _, h.2.1, h.2.2.2⟩
  case xaddrDecode =>
    obtain ⟨hs, hk, h4, h⟩ := h
    simp only [srcRange] at hs
    rcases h with hm | ⟨fb, hfb, hf, hl, h⟩
    · exact ⟨familyByteRange s, by simp [Instr.reads, xaddrDecodeReads, h4], by simp only [familyByteRange]; omega, hm⟩
    · have hread : Memory.read s.mem (s.srcOff.toNat + 1) = some (byteAt fb 0) := by
        obtain ⟨hlen, hh⟩ := memRead_eq_some.1 hfb
        match fb, hlen with
        | [b], _ => exact hh 0 (by simp)
      have hreads : Instr.reads .xaddrDecode s =
          [familyByteRange s, portAddressRange s (addressLen (byteAt fb 0)), hdrKeyRange s] := by
        simp only [Instr.reads, xaddrDecodeReads, if_pos h4, hread, if_pos (And.intro hf hl)]
      rw [hreads]
      rcases h with hm | ⟨-, -, hm⟩
      · exact ⟨_, .tail _ (.head _), by simp only [portAddressRange]; omega, hm⟩
      · exact ⟨_, .tail _ (.tail _ (.head _)), hk, hm⟩

/-- Only HDR_DECODE and FP_VERIFY have a failure's status effect (R165). -/
theorem onFail_eq (i : Instr) (st : Status) : onFail i st = { st with
      hdrValid := if i = .hdrDecode then false else st.hdrValid
      fpMatch := if i = .fpVerify then false else st.fpMatch } := by
  cases i <;> simp [onFail, setHdrValid, setFpMatch]

end Sys2Proof.Machine
end

