-- ==== Sys2Proof/Laws/Hash.lean ====
section
/-! SUPPORT. Absorbing (41_sha1.md R118): what it leaves of the buffer, the count and the valid bit, over any compression function. -/

namespace Sys2Proof.Machine

variable {σ : Type} (compress : σ → List Byte → σ)

theorem absorbByte_n (c : HashCtx σ) (x : Byte) : (absorbByte compress c x).n = c.n := by
  unfold absorbByte; split <;> rfl

theorem absorbByte_valid (c : HashCtx σ) (x : Byte) : (absorbByte compress c x).valid = c.valid := by
  unfold absorbByte; split <;> rfl

/-- One byte more in the buffer, modulo the block size. -/
theorem absorbByte_buf_length (c : HashCtx σ) (x : Byte) (h : c.buf.length < 64) :
    (absorbByte compress c x).buf.length = (c.buf.length + 1) % 64 := by
  unfold absorbByte
  split
  · next h1 => simp at h1; simp [h1]
  · next h1 => simp at h1; simp; omega

theorem foldl_absorbByte_n (m : List Byte) (c : HashCtx σ) : (m.foldl (absorbByte compress) c).n = c.n := by
  induction m generalizing c with
  | nil => rfl
  | cons x rest ih => rw [List.foldl_cons, ih, absorbByte_n]

theorem foldl_absorbByte_valid (m : List Byte) (c : HashCtx σ) :
    (m.foldl (absorbByte compress) c).valid = c.valid := by
  induction m generalizing c with
  | nil => rfl
  | cons x rest ih => rw [List.foldl_cons, ih, absorbByte_valid]

theorem foldl_absorbByte_buf_length (m : List Byte) (c : HashCtx σ) (h : c.buf.length < 64) :
    (m.foldl (absorbByte compress) c).buf.length = (c.buf.length + m.length) % 64 := by
  induction m generalizing c with
  | nil => simp; omega
  | cons x rest ih =>
    rw [List.foldl_cons, ih _ (by rw [absorbByte_buf_length compress c x h]; omega), absorbByte_buf_length compress c x h]
    simp; omega

@[simp] theorem absorb_n (c : HashCtx σ) (m : List Byte) : (absorb compress c m).n = c.n + m.length := rfl

@[simp] theorem absorb_valid (c : HashCtx σ) (m : List Byte) : (absorb compress c m).valid = c.valid :=
  foldl_absorbByte_valid compress m c

theorem absorb_buf_length (c : HashCtx σ) (m : List Byte) (h : c.buf.length < 64) :
    (absorb compress c m).buf.length = (c.buf.length + m.length) % 64 :=
  foldl_absorbByte_buf_length compress m c h

/-- The byte loop does not look at the count. -/
theorem foldl_absorbByte_with_n (m : List Byte) (c : HashCtx σ) (k : Nat) :
    m.foldl (absorbByte compress) { c with n := k } = { m.foldl (absorbByte compress) c with n := k } := by
  induction m generalizing c with
  | nil => rfl
  | cons x rest ih =>
    rw [List.foldl_cons, List.foldl_cons, ← ih]
    congr 1
    unfold absorbByte
    split <;> rfl

end Sys2Proof.Machine
end

