-- ==== Sys2Proof/Laws/PerInstr.lean ====
section
/-! SUPPORT. The per-instruction family: every instruction's encoding matches its row of spec/opcode_table.json. -/

namespace Sys2Proof.Laws.TableRow

open Sys2Proof

/-- The match and mask of each instruction's row of spec/opcode_table.json. -/
def row (i : Instr) : Nat × Nat :=
  match i with
  | .nop => (0x00000000, 0xFFFFFFFF)
  | .sha1Init => (0x00000001, 0xFFFFFFFF)
  | .sha1Update => (0x00000002, 0xFFFFFFFF)
  | .sha1Final _ => (0x00000003, 0xFFFFFEFF)
  | .sha1 _ => (0x00000004, 0xFFFFFEFF)
  | .sha256Init => (0x00000005, 0xFFFFFFFF)
  | .sha256Update => (0x00000006, 0xFFFFFFFF)
  | .sha256Final _ => (0x00000007, 0xFFFFFEFF)
  | .sha256 _ => (0x00000008, 0xFFFFFEFF)
  | .hmacSha1 _ => (0x00000009, 0xFFFFFEFF)
  | .hmacSha256 _ => (0x0000000A, 0xFFFFFEFF)
  | .crc32 _ => (0x0000000B, 0xFFFFFEFF)
  | .fingerprint _ => (0x0000000C, 0xFFFFFEFF)
  | .fpVerify => (0x0000000D, 0xFFFFFFFF)
  | .hdrEncode => (0x0000000E, 0xFFFFFFFF)
  | .hdrDecode => (0x0000000F, 0xFFFFFFFF)
  | .xaddrEncode => (0x00000010, 0xFFFFFFFF)
  | .xaddrDecode => (0x00000011, 0xFFFFFFFF)
  | .busWrite _ _ => (0x2000000000000, 0x2000000000000)
  | .busRead _ => (0x0000000000000, 0x2000000000000)

/-- The number of an encoded instruction's bits. -/
def bits (w : InstrWord) : Nat :=
  match w with
  | .cmd c => c.toNat
  | .bus t => t.toNat

/-- Every encoding of `i` under its row's mask is its row's match. -/
def Statement (i : Instr) : Prop := bits (encode i) &&& (row i).2 = (row i).1

theorem and_mask_bus (w : Bool) (a : BusAddr) (d : Word) :
    (busWord w a d).toNat &&& 0x2000000000000 = if w then 0x2000000000000 else 0 := by
  have h : (busWord w a d).toNat.testBit 49 = w := by
    rw [BitVec.testBit_toNat]
    cases w <;> (simp only [busWord, BitVec.getLsbD_append]; simp)
  have e : (0x2000000000000 : Nat) = 2 ^ 49 := by norm_num
  rw [e, Nat.and_two_pow, h]
  cases w <;> simp

theorem nop : Statement .nop := rfl

theorem sha1Init : Statement .sha1Init := rfl

theorem sha1Update : Statement .sha1Update := rfl

theorem sha1Final (store : Bool) : Statement (.sha1Final store) := by cases store <;> rfl

theorem sha1 (store : Bool) : Statement (.sha1 store) := by cases store <;> rfl

theorem sha256Init : Statement .sha256Init := rfl

theorem sha256Update : Statement .sha256Update := rfl

theorem sha256Final (store : Bool) : Statement (.sha256Final store) := by cases store <;> rfl

theorem sha256 (store : Bool) : Statement (.sha256 store) := by cases store <;> rfl

theorem hmacSha1 (store : Bool) : Statement (.hmacSha1 store) := by cases store <;> rfl

theorem hmacSha256 (store : Bool) : Statement (.hmacSha256 store) := by cases store <;> rfl

theorem crc32 (store : Bool) : Statement (.crc32 store) := by cases store <;> rfl

theorem fingerprint (store : Bool) : Statement (.fingerprint store) := by cases store <;> rfl

theorem fpVerify : Statement .fpVerify := rfl

theorem hdrEncode : Statement .hdrEncode := rfl

theorem hdrDecode : Statement .hdrDecode := rfl

theorem xaddrEncode : Statement .xaddrEncode := rfl

theorem xaddrDecode : Statement .xaddrDecode := rfl

theorem busWrite (addr : BusAddr) (data : Word) : Statement (.busWrite addr data) := and_mask_bus true addr data

theorem busRead (addr : BusAddr) : Statement (.busRead addr) := and_mask_bus false addr 0

end Sys2Proof.Laws.TableRow
end

