-- ==== Sys2Proof/Laws/Step.lean ====
section
/-! SUPPORT. One step, once: every next state it can answer (40_bus_and_control.md R107, R109). -/

namespace Sys2Proof.Machine

/-- A command word that decodes to an instruction has that instruction's opcode (30_encoding.md R83, R90). -/
theorem opcode_of_decode {c : Word} {i : Instr} (h : decode (.cmd c) = .ok i) : i.opcode = some (cmdOpcode c) := by
  simp only [decode, decodeCmd] at h
  split at h
  · have hop : cmdOpcode c = BitVec.ofNat 8 (cmdOpcode c).toNat := by simp
    generalize cmdStore c = store at *
    rw [hop]
    generalize (cmdOpcode c).toNat = n at *
    unfold decodeOpcode at h
    split at h <;> first | (simp at h; done) | (cases store <;> simp [withoutStore] at h <;> subst h <;> rfl)
  · simp at h

/-- What the engine's step can answer as a next state. -/
theorem engineStep_eq_next {s t : State} (h : engineStep s = .next t) :
    (s.eng.state = .idle ∧ t = s) ∨
    (s.eng.state = .busy ∧ ∃ i, decode (.cmd s.eng.cmd) = .ok i ∧ exec i s = .next t) ∨
    (s.eng.state = .busy ∧ (∃ e, decode (.cmd s.eng.cmd) = .error e) ∧ t = completeIllegal s.eng.cmd s) := by
  simp only [engineStep] at h
  split at h
  · next hb =>
    simp only [runWord] at h
    split at h
    · next hd => exact .inr (.inl ⟨hb, _, hd, h⟩)
    · next hd he => cases hd; cases h; exact .inr (.inr ⟨hb, ⟨_, he⟩, rfl⟩)
    · next hd _ => cases hd
  · next hb => cases h; exact .inl ⟨hb, rfl⟩

/-- What a step can answer as a next state: the engine's turn while IDLE, a command's completion, an illegal command word's completion, a
narrow access refused, a bus access, a power-on reset. -/
theorem step_eq_next {s t : State} (h : step s = .next t) :
    (s.engineNext ∧ s.eng.state = .idle ∧ t = takeMove s) ∨
    (s.engineNext ∧ s.eng.state = .busy ∧ ∃ i, decode (.cmd s.eng.cmd) = .ok i ∧ exec i (takeMove s) = .next t) ∨
    (s.engineNext ∧ s.eng.state = .busy ∧ (∃ e, decode (.cmd s.eng.cmd) = .error e) ∧
      t = completeIllegal s.eng.cmd (takeMove s)) ∨
    (∃ size w rest, s.host.pending = .access size w :: rest ∧ size ≠ 32 ∧ t = respond (takeMove s) .busErr) ∨
    (∃ w rest, s.host.pending = .access 32 w :: rest ∧ exec (decodeBus w) (takeMove s) = .next t) ∨
    (∃ rest, s.host.pending = .powerOn :: rest ∧ t = powerOnInput (takeMove s)) := by
  unfold step nextMove at h
  split at h
  · next hp =>
    rcases engineStep_eq_next h with ⟨a, b⟩ | ⟨a, b⟩ | ⟨a, b⟩
    · exact .inl ⟨.inl hp, a, b⟩
    · exact .inr (.inl ⟨.inl hp, a, b⟩)
    · exact .inr (.inr (.inl ⟨.inl hp, a, b⟩))
  · next m rest hp =>
    cases m with
    | engineTurn =>
      rcases engineStep_eq_next h with ⟨a, b⟩ | ⟨a, b⟩ | ⟨a, b⟩
      · exact .inl ⟨.inr ⟨_, hp⟩, a, b⟩
      · exact .inr (.inl ⟨.inr ⟨_, hp⟩, a, b⟩)
      · exact .inr (.inr (.inl ⟨.inr ⟨_, hp⟩, a, b⟩))
    | powerOn => cases h; exact .inr (.inr (.inr (.inr (.inr ⟨_, hp, rfl⟩))))
    | access size w =>
      simp only [runMove, hostAccess] at h
      split at h
      · next h32 => subst h32; exact .inr (.inr (.inr (.inr (.inl ⟨_, _, hp, h⟩))))
      · next h32 => cases h; exact .inr (.inr (.inr (.inl ⟨_, _, _, hp, h32, rfl⟩)))

/-! ## The end of a run -/

/-- A run ends in a state where it has ended (70_reset_and_hazards.md R197). -/
theorem RunEndsAt.runEnded {s t : State} (h : RunEndsAt s t) : t.runEnded := by
  induction h with
  | here h => exact h
  | step _ _ _ ih => exact ih

/-- A run ends in one state only: the first (R197). -/
theorem RunEndsAt.unique {s t u : State} (ht : RunEndsAt s t) (hu : RunEndsAt s u) : t = u := by
  induction ht with
  | here h =>
    cases hu with
    | here _ => rfl
    | step h' _ _ => exact absurd h h'
  | step h hs _ ih =>
    cases hu with
    | here h' => exact absurd h' h
    | step _ hs' hu' => rw [hs] at hs'; cases hs'; exact ih hu'

end Sys2Proof.Machine
end

