-- ==== Sys2Proof/Tests/Slice0.lean ====
section
/-! SUPPORT. Tests on fixed values, their results taken from the spec (95_test_vectors.md unless a docstring names another file), and for
every obligation with hypotheses a witness: a concrete state and operands that meet all of them. -/

namespace Sys2Proof.Tests

-- One theorem at a time: many kernel evaluations waiting at once take a thread each.
set_option Elab.async false

open Sys2Proof Sys2Proof.Machine

/-! ## Helpers -/

/-- The next state of an outcome; nothing for a fault or a refusal. -/
def nextOf (o : Host.Outcome State Fault Refusal) : Option State :=
  match o with
  | .next s => some s
  | .fault _ => none
  | .refused _ => none

/-- The state a command completes in, from `s`; `s` itself where it does not complete. -/
def after (i : Instr) (s : State) : State := (nextOf (exec i s)).getD s

/-- The same of a step. -/
def stepped (s : State) : State := (nextOf (step s)).getD s

theorem eq_next {o : Host.Outcome State Fault Refusal} {s : State} (h : (nextOf o).isSome = true) : o = .next ((nextOf o).getD s) := by
  cases o with
  | next t => rfl
  | fault f => cases h
  | refused r => cases h

theorem exec_after {i : Instr} {s : State} (h : (nextOf (exec i s)).isSome = true) : exec i s = .next (after i s) := eq_next h

theorem step_stepped {s : State} (h : (nextOf (step s)).isSome = true) : step s = .next (stepped s) := eq_next h

/-- Whether an outcome is the model fault. -/
def faults (o : Host.Outcome State Fault Refusal) : Bool :=
  match o with
  | .next _ => false
  | .fault _ => true
  | .refused _ => false

theorem eq_fault {o : Host.Outcome State Fault Refusal} (h : faults o = true) : o = .fault .undefinedByte := by
  cases o with
  | next t => cases h
  | fault f => cases f; rfl
  | refused r => cases h

/-- `clean_por` with the bytes `bs` at `off` and the source range (off, |bs|). -/
def source (off : Nat) (bs : List Byte) : State :=
  { memWrite State.reset off bs with srcOff := BitVec.ofNat 32 off, srcLen := BitVec.ofNat 32 bs.length }

/-- The five digest registers of SHA-1. -/
def digest5 (s : State) : List Word := [s.digest.w0, s.digest.w1, s.digest.w2, s.digest.w3, s.digest.w4]

/-- The eight digest registers. -/
def digest8 (s : State) : List Word := digest5 s ++ [s.digest.w5, s.digest.w6, s.digest.w7]

/-- The engine BUSY with a command word. -/
def busyWith (c : Word) (s : State) : State := { s with eng := { state := .busy, cmd := c } }

/-- The moves to come. -/
def pend (ms : List Move) (s : State) : State := { s with host := { s.host with pending := ms } }

/-- "abc". -/
def abc : List Byte := [0x61, 0x62, 0x63]

/-- "Jefe". -/
def jefe : List Byte := [0x4A, 0x65, 0x66, 0x65]

/-- "what do ya want for nothing?". -/
def want : List Byte :=
  [0x77, 0x68, 0x61, 0x74, 0x20, 0x64, 0x6F, 0x20, 0x79, 0x61, 0x20, 0x77, 0x61, 0x6E, 0x74, 0x20,
   0x66, 0x6F, 0x72, 0x20, 0x6E, 0x6F, 0x74, 0x68, 0x69, 0x6E, 0x67, 0x3F]

/-- "123456789". -/
def digits : List Byte := [0x31, 0x32, 0x33, 0x34, 0x35, 0x36, 0x37, 0x38, 0x39]

/-- The key range placed at `off`. -/
def withKey (off : Nat) (bs : List Byte) (s : State) : State :=
  { memWrite s off bs with keyOff := BitVec.ofNat 32 off, keyLen := BitVec.ofNat 32 bs.length }

/-- The transaction id 00 01 .. 0B. -/
def txid : List Byte := [0x00, 0x01, 0x02, 0x03, 0x04, 0x05, 0x06, 0x07, 0x08, 0x09, 0x0A, 0x0B]

/-- The first 20 bytes of source vector 1 (section 1.1). -/
def vector1 : List Byte := [0x01, 0x01, 0x00, 0x10, 0x21, 0x12, 0xA4, 0x42] ++ txid

/-- The header of rows D-1 .. D-9. -/
def header8 (a b c d : Byte) (cookie : List Byte) : List Byte := [a, b, c, d] ++ cookie ++ txid

/-! ## Well-formedness and decoding -/

theorem test_misaligned_write_is_ill_formed : (Instr.busWrite 0x10002 0).wellFormed = false := by decide
theorem test_misaligned_read_is_ill_formed : (Instr.busRead 0x00001).wellFormed = false := by decide
theorem test_aligned_write_is_well_formed : (Instr.busWrite 0x10004 0).wellFormed = true := by decide

/-- 30_encoding.md R91: the three ways a command word is illegal. -/
theorem test_illegal_words_refused :
    decode (.cmd 0x200) = .error .reservedBits ∧ decode (.cmd 0x80000004) = .error .reservedBits ∧
    decode (.cmd 0x012) = .error .unusedOpcode ∧ decode (.cmd 0x0FF) = .error .unusedOpcode ∧
    decode (.cmd 0x100) = .error .storeNotAllowed ∧ decode (.cmd 0x10D) = .error .storeNotAllowed := by
  refine ⟨rfl, rfl, rfl, rfl, rfl, rfl⟩

/-- 30_encoding.md R83, R90, R92: the words of the eighteen commands without STORE. -/
theorem test_decode_commands :
    decode (.cmd 0x00000000) = .ok .nop ∧ decode (.cmd 0x00000001) = .ok .sha1Init ∧
    decode (.cmd 0x00000002) = .ok .sha1Update ∧ decode (.cmd 0x00000003) = .ok (.sha1Final false) ∧
    decode (.cmd 0x00000004) = .ok (.sha1 false) ∧ decode (.cmd 0x00000005) = .ok .sha256Init ∧
    decode (.cmd 0x00000006) = .ok .sha256Update ∧ decode (.cmd 0x00000007) = .ok (.sha256Final false) ∧
    decode (.cmd 0x00000008) = .ok (.sha256 false) ∧ decode (.cmd 0x00000009) = .ok (.hmacSha1 false) ∧
    decode (.cmd 0x0000000A) = .ok (.hmacSha256 false) ∧ decode (.cmd 0x0000000B) = .ok (.crc32 false) ∧
    decode (.cmd 0x0000000C) = .ok (.fingerprint false) ∧ decode (.cmd 0x0000000D) = .ok .fpVerify ∧
    decode (.cmd 0x0000000E) = .ok .hdrEncode ∧ decode (.cmd 0x0000000F) = .ok .hdrDecode ∧
    decode (.cmd 0x00000010) = .ok .xaddrEncode ∧ decode (.cmd 0x00000011) = .ok .xaddrDecode := by
  refine ⟨rfl, rfl, rfl, rfl, rfl, rfl, rfl, rfl, rfl, rfl, rfl, rfl, rfl, rfl, rfl, rfl, rfl, rfl⟩

/-- The words of the eight commands with STORE, bit by bit: 23 zero bits, s = 1, the opcode (R83). -/
theorem test_decode_store_commands :
    decode (.cmd 0b00000000000000000000000100000011) = .ok (.sha1Final true) ∧
    decode (.cmd 0b00000000000000000000000100000100) = .ok (.sha1 true) ∧
    decode (.cmd 0b00000000000000000000000100000111) = .ok (.sha256Final true) ∧
    decode (.cmd 0b00000000000000000000000100001000) = .ok (.sha256 true) ∧
    decode (.cmd 0b00000000000000000000000100001001) = .ok (.hmacSha1 true) ∧
    decode (.cmd 0b00000000000000000000000100001010) = .ok (.hmacSha256 true) ∧
    decode (.cmd 0b00000000000000000000000100001011) = .ok (.crc32 true) ∧
    decode (.cmd 0b00000000000000000000000100001100) = .ok (.fingerprint true) := by
  refine ⟨rfl, rfl, rfl, rfl, rfl, rfl, rfl, rfl⟩

/-- 30_encoding.md R84 and the listings of section 3: W in bit 49, A in [48:32], D in [31:0]. -/
theorem test_decode_bus :
    decode (.bus 0x200100000000E) = .ok (.busWrite 0x00010 0x0000000E) ∧
    decode (.bus 0b11000000000010000001101110011111110001111011111111) = .ok (.busWrite 0x10020 0x6E7F1EFF) ∧
    decode (.bus 0x1001800000000) = .ok (.busRead 0x10018) := by
  refine ⟨rfl, rfl, rfl⟩

/-- The numbering of opcode_table.json: 32 bits for a command, 56 for a bus transaction. -/
theorem test_table_words :
    decodeTableWord 32 0x104 = some (.sha1 true) ∧ decodeTableWord 32 0x12 = none ∧
    decodeTableWord 56 0x200100000000E = some (.busWrite 0x00010 0x0E) ∧
    decodeTableWord 56 0x1001800000000 = some (.busRead 0x10018) ∧
    decodeTableWord 56 0x4000000000000 = none := by
  refine ⟨rfl, rfl, rfl, rfl, rfl⟩

theorem test_fetch_word_runs_command :
    step (State.reset.withFetchWord 32 0) = .next ({ State.reset with status := { Status.reset with done := true } }) := rfl

theorem test_fetch_word_runs_bus :
    step (State.reset.withFetchWord 56 0x0000000000000) = .next (respond State.reset (.data 0x53544331)) := rfl

/-! ## Commands -/

/-- K-4. -/
theorem test_nop : statusWord (after .nop State.reset) = 0x00000002 := by decide

theorem test_sha1Init : (after .sha1Init State.reset).ctx1 = freshCtx sha1IV ∧ statusWord (after .sha1Init State.reset) = 0x00010042 := by
  decide

/-- S1-8. -/
theorem test_sha1Update_seq : statusWord (after .sha1Update State.reset) = 0x00020306 := by decide

/-- R118: three bytes are buffered, none compressed. -/
theorem test_sha1Update :
    (after .sha1Update (after .sha1Init (source 0 abc))).ctx1 = { H := sha1IV, buf := abc, n := 3, valid := true } := by
  decide

/-- S1-10: the range check comes before the sequence check. -/
theorem test_sha1Final_range :
    statusWord (after (.sha1Final true) { State.reset with dstOff := 2029 }) = 0x00030206 := by decide

/-- The digest of the empty message. -/
theorem test_sha1Final :
    digest5 (after (.sha1Final false) (after .sha1Init State.reset)) =
      [0xDA39A3EE, 0x5E6B4B0D, 0x3255BFEF, 0x95601890, 0xAFD80709] := by decide +kernel

/-- S1-1. -/
theorem test_sha1 :
    digest8 (after (.sha1 false) (source 0 abc)) =
      [0xA9993E36, 0x4706816A, 0xBA3E2571, 0x7850C26C, 0x9CD0D89D, 0, 0, 0] := by decide +kernel

/-- S1-3. -/
theorem test_sha1_range : statusWord (after (.sha1 false) { State.reset with srcOff := 2040, srcLen := 9 }) = 0x00040206 := by decide

/-- S2-5. -/
theorem test_sha256Init :
    (after .sha256Init State.reset).ctx2 = freshCtx sha256IV ∧ statusWord (after .sha256Init State.reset) = 0x00050082 := by
  decide

/-- S2-4. -/
theorem test_sha256Update_seq : statusWord (after .sha256Update State.reset) = 0x00060306 := by decide

theorem test_sha256Update :
    (after .sha256Update (after .sha256Init (source 0 abc))).ctx2 = { H := sha256IV, buf := abc, n := 3, valid := true } := by
  decide

/-- The digest of the empty message, and the context cleared. -/
theorem test_sha256Final :
    digest8 (after (.sha256Final false) (after .sha256Init State.reset)) =
      [0xE3B0C442, 0x98FC1C14, 0x9AFBF4C8, 0x996FB924, 0x27AE41E4, 0x649B934C, 0xA495991B, 0x7852B855] := by decide +kernel

/-- S2-1. -/
theorem test_sha256 :
    digest8 (after (.sha256 false) (source 0 abc)) =
      [0xBA7816BF, 0x8F01CFEA, 0x414140DE, 0x5DAE2223, 0xB00361A3, 0x96177A9C, 0xB410FF61, 0xF20015AD] := by decide +kernel

/-- S2-2, S2-3: the digest's bytes are stored big-endian at the end of MSGBUF, and not one byte further. -/
theorem test_sha256_store :
    (memRead (after (.sha256 true) { source 0 abc with dstOff := 2016 }) ⟨2016, 4⟩) = some [0xBA, 0x78, 0x16, 0xBF] ∧
    statusWord (after (.sha256 true) { source 0 abc with dstOff := 2017 }) = 0x00080206 := by decide +kernel

/-- H-1. -/
theorem test_hmacSha1 :
    digest5 (after (.hmacSha1 false) (withKey 0x100 jefe (source 0 want))) =
      [0xEFFCDF6A, 0xE5EB2FA2, 0xD27416D5, 0xF184DF9C, 0x259A7C79] := by decide +kernel

/-- H-7: a key of 65 bytes is hashed first. -/
theorem test_hmacSha1_long_key :
    digest5 (after (.hmacSha1 false) (withKey 0x100 ((List.range 65).map (BitVec.ofNat 8)) (source 0 abc))) =
      [0x7636C08E, 0x7B7C0F0C, 0x391CA01D, 0x34EF4208, 0x399FBCF8] := by decide +kernel

/-- H-1. -/
theorem test_hmacSha256 :
    digest8 (after (.hmacSha256 false) (withKey 0x100 jefe (source 0 want))) =
      [0x5BDCC146, 0xBF60754E, 0x6A042426, 0x089575C7, 0x5A003F08, 0x9D273983, 0x9DEC58B9, 0x64EC3843] := by decide +kernel

/-- H-6: a key of exactly 64 bytes is used as it is. -/
theorem test_hmacSha256_block_key :
    digest8 (after (.hmacSha256 false) (withKey 0x100 ((List.range 64).map (BitVec.ofNat 8)) (source 0 abc))) =
      [0x6AB541B4, 0x869DCA71, 0xC4CA11D8, 0xBB1B0253, 0x3B789A55, 0x75831614, 0x29292C74, 0x04BC21F6] := by decide +kernel

/-- C-5. -/
theorem test_crc32 : (after (.crc32 false) (source 0 digits)).crcOut = 0xCBF43926 := by decide +kernel

/-- C-5 with STORE at the last place it fits, and one byte further (section 2.4). -/
theorem test_crc32_store :
    (memRead (after (.crc32 true) { source 0 digits with dstOff := 2044 }) ⟨2044, 4⟩) = some [0xCB, 0xF4, 0x39, 0x26] ∧
    statusWord (after (.crc32 true) { source 0 digits with dstOff := 2045 }) = 0x000B0206 := by decide +kernel

/-- C-5. -/
theorem test_fingerprint : (after (.fingerprint false) (source 0 digits)).crcOut = 0x98A06C68 := by decide +kernel

/-- F-7 and F-8. -/
theorem test_fpVerify :
    statusWord (after .fpVerify (source 0 [0x80, 0x28, 0x00, 0x04, 0x53, 0x54, 0x55, 0x4E])) = 0x000D0022 ∧
    statusWord (after .fpVerify (source 0 [0x80, 0x29, 0x00, 0x04, 0x53, 0x54, 0x55, 0x4E])) = 0x000D0002 := by decide +kernel

/-- F-9. -/
theorem test_fpVerify_short : statusWord (after .fpVerify { State.reset with srcLen := 7 }) = 0x000D3006 := by decide

/-- Section 1.1: the header of source vector 1. -/
theorem test_hdrEncode :
    (memRead (after .hdrEncode { State.reset with
      hdrClass := 0x0100, hdrMethod := 0x0001, hdrLength := 0x0010, txid0 := 0x00010203, txid1 := 0x04050607, txid2 := 0x08090A0B })
      ⟨0, 20⟩) = some vector1 := by decide +kernel

/-- E-6: bits 15:14 are masked and the length is not checked; E-8: one byte too far. -/
theorem test_hdrEncode_masks :
    (memRead (after .hdrEncode { State.reset with hdrClass := 0xFFFF, hdrMethod := 0xFFFF, hdrLength := 3 }) ⟨0, 4⟩) =
      some [0x3F, 0xFF, 0x00, 0x03] ∧
    statusWord (after .hdrEncode { State.reset with dstOff := 2029 }) = 0x000E0206 := by decide +kernel

/-- P2: the 36-byte message, of which only the header need be defined. -/
theorem test_hdrDecode :
    statusWord (after .hdrDecode { source 0 vector1 with srcLen := 36 }) = 0x000F0012 ∧
    (after .hdrDecode { source 0 vector1 with srcLen := 36 }).hdrClass = 0x0100 ∧
    (after .hdrDecode { source 0 vector1 with srcLen := 36 }).txid2 = 0x08090A0B := by decide +kernel

/-- D-1, D-4, D-5, D-6, D-7: the order of the checks, by their codes. -/
theorem test_hdrDecode_order :
    (after .hdrDecode (source 0 (header8 0xC0 0x01 0x00 0x03 [0, 0, 0, 0]))).status.errcode = .hdrLeadingBits ∧
    (after .hdrDecode (source 0 (header8 0x00 0x01 0x00 0x03 [0, 0, 0, 0]))).status.errcode = .hdrLenAlign ∧
    (after .hdrDecode (source 0 (header8 0x00 0x01 0x00 0x04 [0, 0, 0, 0]))).status.errcode = .hdrLenMismatch ∧
    (after .hdrDecode (source 0 (header8 0x00 0x01 0x00 0x00 [0, 0, 0, 0]))).status.errcode = .hdrCookie ∧
    (after .hdrDecode { source 0 vector1 with srcLen := 19 }).status.errcode = .hdrShort := by decide +kernel

/-- The state of row X-1: a header at 0x200 whose key is that of section 2.6. -/
def xaddrState : State :=
  { memWrite State.reset 0x204 ([0x21, 0x12, 0xA4, 0x42] ++ txid) with
    hdrOff := 0x200, xaFamily := 1, xaPort := 0x8055, xaAddr0 := 0xC0000201 }

/-- X-1. -/
theorem test_xaddrEncode :
    (memRead (after .xaddrEncode xaddrState) ⟨0, 8⟩) = some [0x00, 0x01, 0xA1, 0x47, 0xE1, 0x12, 0xA6, 0x43] ∧
    (after .xaddrEncode xaddrState).xaLen = 8 := by decide +kernel

/-- X-6: the family is checked before every range. -/
theorem test_xaddrEncode_family :
    statusWord (after .xaddrEncode { State.reset with xaFamily := 3, dstOff := 0xFFFFFFFF }) = 0x00102006 := by decide

/-- The value of row X-13: X-1's with another reserved byte. -/
def xaddrValue : State :=
  { memWrite xaddrState 0 [0xFF, 0x01, 0xA1, 0x47, 0xE1, 0x12, 0xA6, 0x43] with srcLen := 8, xaPort := 0, xaAddr0 := 0, xaAddr1 := 7 }

/-- X-13: the reserved byte is ignored, and an IPv4 decode clears XA_ADDR1. -/
theorem test_xaddrDecode :
    (after .xaddrDecode xaddrValue).xaPort = 0x8055 ∧ (after .xaddrDecode xaddrValue).xaAddr0 = 0xC0000201 ∧
    (after .xaddrDecode xaddrValue).xaAddr1 = 0 := by decide +kernel

/-- X-9. -/
theorem test_xaddrDecode_short : statusWord (after .xaddrDecode { State.reset with srcLen := 3 }) = 0x00112106 := by decide

/-! ## Bus accesses and illegal words -/

/-- K-1, K-2. -/
theorem test_bus_read_id_caps :
    (after (.busRead 0x00000) State.reset).host.responses = [.data 0x53544331] ∧
    (after (.busRead 0x00004) State.reset).host.responses = [.data 0x003F0200] := by decide

/-- K-13, K-14, K-12. -/
theorem test_bus_errors :
    (after (.busRead 0x00FFC) State.reset).host.responses = [.busErr] ∧
    (after (.busRead 0x10800) State.reset).host.responses = [.busErr] ∧
    after (.busWrite 0x10002 0) State.reset = respond State.reset .busErr := by decide

/-- K-17, and 20_memory.md R58's example of lanes. -/
theorem test_bus_write_fields :
    (after (.busWrite 0x00084 0xFFFF0110) State.reset).hdrClass = 0x0110 ∧
    (after (.busWrite 0x10004 0x11223344) State.reset).mem = [(4, 0x11), (5, 0x22), (6, 0x33), (7, 0x44)] := by decide

/-- K-21, K-24. -/
theorem test_bus_write_busy :
    after (.busWrite 0x00018 5) (busyWith 4 State.reset) = respond (setOvr (busyWith 4 State.reset)) .ok ∧
    after (.busWrite 0x00008 2) (busyWith 4 (setOvr (source 0 abc))) =
      respond { State.reset with mem := (source 0 abc).mem } .ok := by decide

/-- K-18. -/
theorem test_undefined_byte_faults : faults (exec (.busRead 0x10000) State.reset) = true := by decide

/-- K-5. -/
theorem test_illegal_word_completes : statusWord (stepped (busyWith 0x12 State.reset)) = 0x00120106 := by decide

/-- 00_scope.md R10: eight bytes, the most significant first. -/
theorem test_be64 : be64 [0x01, 0x23, 0x45, 0x67, 0x89, 0xAB, 0xCD, 0xEF] = 0x0123456789ABCDEF := by decide

/-- 70_reset_and_hazards.md R197: with only a power-on reset pending the run has ended; with an access pending, or BUSY, it has not. -/
theorem test_run_ended :
    (pend [.powerOn, .engineTurn] (source 0 abc)).runEnded ∧ ¬ (pend [.powerOn, .access 32 0] State.reset).runEnded ∧
    ¬ (busyWith 0 State.reset).runEnded := by decide

/-- 30_encoding.md R95: `cmd SHA1.s` is a write of 0x104 to CMD. -/
theorem test_assembly_cmd : expandStmt (.cmd (.sha1 true)) = [busWord true 0x00010 0x104] := by decide

/-- R95: `msg 0x200, …` is one write per four bytes, the first byte the most significant. -/
theorem test_assembly_msg :
    expandStmt (.msg 0x20 [1, 2, 3, 4, 5, 6, 7, 8]) = [busWord true 0x10020 0x01020304, busWord true 0x10024 0x05060708] := by
  decide

/-! ## Witnesses: every obligation with hypotheses has a state and operands that meet them all -/

theorem holds_of {m : Memory} {off : Nat} {bs : List Byte} (h : Memory.readBytes m off bs.length = some bs) :
    Memory.holds m off bs := ((Memory.readBytes_eq_some _ _ _ _).1 h).2

/-- `clean_por` with no move pending is the engine's turn. -/
theorem engineNext_of {s : State} (h : s.host.pending = []) : s.engineNext := .inl h

theorem test_witness_DecodeAndEncodeAgree :
    decode (.cmd 0x10C) = .ok (.fingerprint true) ∧ (0x200100000000E : BusTxn).getLsbD 49 = true ∧
    (0x1001800000000 : BusTxn).getLsbD 49 = false ∧ (0x1001800000000 : BusTxn).extractLsb' 0 32 = 0 ∧
    (0x10018FFFFFFFF : BusTxn).getLsbD 49 = false := by
  refine ⟨rfl, rfl, rfl, rfl, rfl⟩

theorem test_witness_StepRunsDecodedInstruction :
    (busyWith 0x11 State.reset).eng.state = .busy ∧ (busyWith 0x11 State.reset).engineNext ∧
    decode (.cmd (busyWith 0x11 State.reset).eng.cmd) = .ok .xaddrDecode ∧
    (pend [.access 32 0x1001800000000] State.reset).accessNext 0x1001800000000 ∧
    decode (.bus 0x1001800000000) = .ok (.busRead 0x10018) :=
  ⟨rfl, .inl rfl, rfl, ⟨[], rfl⟩, rfl⟩

/-- One word for each way to be illegal, at its boundary: bit 9, opcode 0x12, STORE where it is not allowed. -/
theorem test_witness_IllegalCommandOnlyReports :
    ((busyWith 0x200 State.reset).engineNext ∧ (busyWith 0x200 State.reset).eng.cmd ∉ legalWords) ∧
    ((busyWith 0x12 State.reset).engineNext ∧ (busyWith 0x12 State.reset).eng.cmd ∉ legalWords) ∧
    ((busyWith 0x10F State.reset).engineNext ∧ (busyWith 0x10F State.reset).eng.cmd ∉ legalWords) :=
  ⟨⟨.inl rfl, by decide⟩, ⟨.inl rfl, by decide⟩, ⟨.inl rfl, by decide⟩⟩

theorem test_witness_EngineMoveEndsIdle :
    (busyWith 0 State.reset).engineNext ∧ step (busyWith 0 State.reset) = .next (stepped (busyWith 0 State.reset)) ∧
    (pend [.engineTurn] State.reset).engineNext ∧ (pend [.engineTurn] State.reset).eng.state = .idle :=
  ⟨.inl rfl, rfl, .inr ⟨[], rfl⟩, rfl⟩

/-- A NOP issued by the one pending access. -/
theorem test_witness_NoRunStaysBusy :
    Host.Core.run Sys2Proof.core 2 (pend [.access 32 0x2001000000000] State.reset) =
      .next { respond State.reset .ok with status := { Status.reset with done := true } } := rfl

theorem test_witness_IdleCommandWordIsUnobservable :
    State.reset.eng.state = .idle ∧ step State.reset = .next State.reset ∧
    (pend [.access 32 0x1000000000000] State.reset).eng.state = .idle ∧
    step (pend [.access 32 0x1000000000000] State.reset) = .fault .undefinedByte := ⟨rfl, rfl, rfl, rfl⟩

theorem test_witness_OnlyUndefinedBytesStopTheMachine :
    (pend [.access 32 0x1000000000000] State.reset).cfg.wf ∧
    step (pend [.access 32 0x1000000000000] State.reset) = .fault .undefinedByte := ⟨by decide, rfl⟩

/-- The invariant at a state with every kind of content: a stream open, a decoded header, an address decoded. -/
def fullState : State :=
  { after .hdrDecode (after .sha1Update (after .sha1Init { source 0 vector1 with srcLen := 20 })) with
    srcLen := 36, hdrCookie := magicCookie, status := { Status.reset with hdrValid := true }, hdrType := 0x3FFF, xaLen := 20 }

theorem test_witness_StepKeepsInvariant :
    State.Inv (busyWith 0x0F fullState) ∧ step (busyWith 0x0F fullState) = .next (stepped (busyWith 0x0F fullState)) :=
  ⟨⟨by decide, by decide, by decide, by decide, by decide, by decide, by decide, by decide, by decide⟩, step_stepped (by decide)⟩

/-- The smallest and the largest legal size. -/
theorem test_witness_ResetMeetsInvariant : (Config.mk 64).wf ∧ (Config.mk 65536).wf := by decide

/-- A soft reset keeps the byte. -/
theorem test_witness_DefinedBytesStayDefined :
    step (pend [.access 32 0x2000800000002] (source 0 abc)) = .next (stepped (pend [.access 32 0x2000800000002] (source 0 abc))) ∧
    (pend [.access 32 0x2000800000002] (source 0 abc)).host.pending ≠ [.powerOn] ∧
    (Memory.read (pend [.access 32 0x2000800000002] (source 0 abc)).mem 2).isSome = true :=
  ⟨step_stepped (by decide), by decide, by decide⟩

theorem test_witness_PowerOnResetValues : (pend [.powerOn, .engineTurn] State.reset).host.pending = .powerOn :: [.engineTurn] := rfl

theorem test_witness_CtrlWriteResetsOrSetsIrqEn : (3 : Word).getLsbD 1 = true ∧ (1 : Word).getLsbD 1 = false := by decide

theorem test_witness_NarrowOrMisalignedAccessIsBusError :
    (8 : Nat) ≠ 32 ∧ (pend [.access 8 0x1000000000000] State.reset).host.pending = .access 8 0x1000000000000 :: [] ∧
    (0x1FFFF : BusAddr).toNat % 4 ≠ 0 ∧ (0x00001 : BusAddr).toNat % 4 ≠ 0 := ⟨by decide, rfl, by decide, by decide⟩

/-- The first hole of the register window, the last address below MSGBUF, and the first word past MSGBUF. -/
theorem test_witness_UnmappedAccessIsBusError :
    ((0x0002C : BusAddr).toNat % 4 = 0 ∧ (0x0002C : BusAddr).toNat < 0x10000 ∧ (0x0002C : BusAddr).toNat ∉ registerAddresses) ∧
    ((0x0FFFC : BusAddr).toNat % 4 = 0 ∧ (0x0FFFC : BusAddr).toNat < 0x10000 ∧ (0x0FFFC : BusAddr).toNat ∉ registerAddresses) ∧
    ((0x10800 : BusAddr).toNat % 4 = 0 ∧ 0x10000 ≤ (0x10800 : BusAddr).toNat ∧
      0x10000 + State.reset.cfg.msgbufSize ≤ (0x10800 : BusAddr).toNat) := by decide

theorem test_witness_BusWriteStoresRegister : State.reset.eng.state = .idle := rfl

theorem test_witness_CmdWriteIsAccepted :
    State.reset.eng.state = .idle ∧ (busyWith 0 State.reset).eng.state = .busy := ⟨rfl, rfl⟩

theorem test_witness_WritesWhileBusyAreDropped :
    (busyWith 4 State.reset).eng.state = .busy ∧
    (0x10000 ≤ (0x107FC : BusAddr).toNat ∧ (0x107FC : BusAddr).toNat % 4 = 0 ∧
      (0x107FC : BusAddr).toNat < 0x10000 + (busyWith 4 State.reset).cfg.msgbufSize) ∧
    (3 : Word).getLsbD 1 = true ∧ (1 : Word).getLsbD 1 = false := by decide

/-- The last word of MSGBUF. -/
theorem test_witness_MsgbufWordLanes :
    (0x107FC : BusAddr).toNat = 0x10000 + 4 * 511 ∧ 4 * 511 < (source 2044 jefe).cfg.msgbufSize ∧
    Memory.holds (source 2044 jefe).mem (4 * 511) [0x4A, 0x65, 0x66, 0x65] ∧ (source 2044 jefe).eng.state = .idle :=
  ⟨by decide, by decide, holds_of (by decide), rfl⟩

theorem test_witness_BusReadsAreIdempotent :
    exec (.busRead 0x00000) State.reset = .next (respond State.reset (.data 0x53544331)) ∧
    exec (.busRead 0x00004) State.reset = .next (respond State.reset (.data 0x003F0200)) := ⟨rfl, rfl⟩

theorem test_witness_IrqLevel :
    (0xA : Word).getLsbD 1 = true ∧ (0xA : Word).getLsbD 3 = true ∧
    (busyWith 0 { State.reset with irqEn := true }).eng.state = .busy ∧
    (busyWith 0 { State.reset with irqEn := true }).engineNext ∧
    step (busyWith 0 { State.reset with irqEn := true }) = .next (stepped (busyWith 0 { State.reset with irqEn := true })) :=
  ⟨by decide, by decide, rfl, .inl rfl, rfl⟩

/-- A dropped write, and a soft reset. -/
theorem test_witness_InputsAreFrozenWhileBusy :
    (busyWith 4 (pend [.access 32 0x2001400000007] State.reset)).eng.state = .busy ∧
    step (busyWith 4 (pend [.access 32 0x2001400000007] State.reset)) =
      .next (stepped (busyWith 4 (pend [.access 32 0x2001400000007] State.reset))) ∧
    step (busyWith 4 (pend [.access 32 0x2000800000002] State.reset)) =
      .next (stepped (busyWith 4 (pend [.access 32 0x2000800000002] State.reset))) :=
  ⟨rfl, rfl, rfl⟩

theorem test_witness_CompletionRecordsOutcome :
    Instr.opcode (.crc32 true) = some 0x0B ∧ exec (.crc32 true) (source 0 abc) = .next (after (.crc32 true) (source 0 abc)) :=
  ⟨rfl, exec_after (by decide +kernel)⟩

/-- A command without a status effect, and the two that have one. -/
theorem test_witness_ErrorsArePrecise :
    (Instr.opcode .sha1Update = some 0x02 ∧ exec .sha1Update State.reset = .next (after .sha1Update State.reset) ∧
      (after .sha1Update State.reset).status.errcode ≠ .ok) ∧
    (Instr.opcode .hdrDecode = some 0x0F ∧ exec .hdrDecode State.reset = .next (after .hdrDecode State.reset) ∧
      (after .hdrDecode State.reset).status.errcode ≠ .ok) ∧
    (Instr.opcode .fpVerify = some 0x0D ∧ exec .fpVerify State.reset = .next (after .fpVerify State.reset) ∧
      (after .fpVerify State.reset).status.errcode ≠ .ok) :=
  ⟨⟨rfl, rfl, by decide⟩, ⟨rfl, rfl, by decide⟩, ⟨rfl, rfl, by decide⟩⟩

/-- HDR_ENCODE at the end of MSGBUF changes HDR_TYPE and MSGBUF; SHA1_INIT changes ctx1. -/
theorem test_witness_OnlyNamedCommandsWrite :
    (Instr.opcode .hdrEncode = some 0x0E ∧
      exec .hdrEncode { State.reset with dstOff := 2028, hdrMethod := 1 } =
        .next (after .hdrEncode { State.reset with dstOff := 2028, hdrMethod := 1 }) ∧
      (after .hdrEncode { State.reset with dstOff := 2028, hdrMethod := 1 }).hdrType ≠ 0 ∧
      (after .hdrEncode { State.reset with dstOff := 2028, hdrMethod := 1 }).mem ≠ []) ∧
    (Instr.opcode .sha1Init = some 0x01 ∧ exec .sha1Init State.reset = .next (after .sha1Init State.reset) ∧
      (after .sha1Init State.reset).ctx1 ≠ State.reset.ctx1) :=
  ⟨⟨rfl, exec_after (by decide), by decide, by decide⟩, ⟨rfl, rfl, by decide⟩⟩

/-- A state with DONE, ERR and OVR set. -/
def stickyState : State := { State.reset with status := { Status.reset with done := true, err := true, ovr := true } }

/-- A failing completion; a STATUS write of 0xE, which clears the three bits; an IDLE state with DONE = 1. -/
theorem test_witness_W1CBitsAreSticky :
    ((busyWith 0x12 State.reset).engineNext ∧ step (busyWith 0x12 State.reset) = .next (stepped (busyWith 0x12 State.reset)) ∧
      (stepped (busyWith 0x12 State.reset)).status.errcode ≠ .ok) ∧
    (step (pend [.access 32 0x2000C0000000E] stickyState) = .next (stepped (pend [.access 32 0x2000C0000000E] stickyState)) ∧
      (stepped (pend [.access 32 0x2000C0000000E] stickyState)).status.done = false ∧
      (stepped (pend [.access 32 0x2000C0000000E] stickyState)).status.err = false ∧
      (stepped (pend [.access 32 0x2000C0000000E] stickyState)).status.ovr = false) ∧
    (stickyState.eng.state = .idle ∧ stickyState.status.done = true) :=
  ⟨⟨.inl rfl, rfl, by decide⟩, ⟨rfl, rfl, rfl, rfl⟩, ⟨rfl, rfl⟩⟩

theorem test_witness_HdrValidIsLastDecodeOutcome :
    exec .hdrDecode fullState = .next (after .hdrDecode fullState) ∧ (after .hdrDecode fullState).status.hdrValid = true ∧
    exec .hdrDecode State.reset = .next (after .hdrDecode State.reset) ∧
    step (busyWith 0x0F { State.reset with status := { Status.reset with hdrValid := true } }) =
      .next (stepped (busyWith 0x0F { State.reset with status := { Status.reset with hdrValid := true } })) ∧
    (stepped (busyWith 0x0F { State.reset with status := { Status.reset with hdrValid := true } })).status.hdrValid ≠ true :=
  ⟨exec_after (by decide), by decide, rfl, rfl, by decide⟩

/-- One past the end: the source; the key after a good source; each destination after good ranges. -/
theorem test_witness_RangeErrorsStopCommands :
    (State.reset.cfg.msgbufSize < ({ State.reset with srcOff := 0xFFFFFFFF, srcLen := 1 } : State).srcOff.toNat + 1) ∧
    (State.reset.cfg.msgbufSize < ({ State.reset with srcOff := 2048, srcLen := 1 } : State).srcOff.toNat + 1) ∧
    (({ State.reset with srcOff := 2048, keyOff := 2048, keyLen := 1 } : State).srcOff.toNat + 0 ≤ State.reset.cfg.msgbufSize ∧
      State.reset.cfg.msgbufSize < ({ State.reset with srcOff := 2048, keyOff := 2048, keyLen := 1 } : State).keyOff.toNat + 1) ∧
    (State.reset.keyOff.toNat + State.reset.keyLen.toNat ≤ State.reset.cfg.msgbufSize ∧
      State.reset.cfg.msgbufSize < ({ State.reset with dstOff := 2029 } : State).dstOff.toNat + 20 ∧
      State.reset.cfg.msgbufSize < ({ State.reset with dstOff := 2017 } : State).dstOff.toNat + 32 ∧
      State.reset.cfg.msgbufSize < ({ State.reset with dstOff := 2045 } : State).dstOff.toNat + 4) := by decide

/-- Bytes 0..2 are defined and byte 3 is not; both streams are open, with n at the most that 20 more bytes allow. -/
def gapState : State :=
  { source 0 abc with
    srcLen := 20
    ctx1 := { freshCtx sha1IV with n := 2 ^ 61 - 21 }
    ctx2 := { freshCtx sha256IV with n := 2 ^ 61 - 21 } }

theorem test_witness_UndefinedSourceByteFaults_source :
    gapState.srcOff.toNat + gapState.srcLen.toNat ≤ gapState.cfg.msgbufSize ∧ 3 < gapState.srcLen.toNat ∧
    Memory.read gapState.mem (gapState.srcOff.toNat + 3) = none ∧ 20 ≤ gapState.srcLen.toNat ∧
    gapState.ctx1.valid = true ∧ gapState.ctx1.n + gapState.srcLen.toNat ≤ 2 ^ 61 - 1 ∧
    gapState.ctx2.valid = true ∧ gapState.ctx2.n + gapState.srcLen.toNat ≤ 2 ^ 61 - 1 ∧
    (true = true → ({ gapState with dstOff := 2028 } : State).dstOff.toNat + 20 ≤ gapState.cfg.msgbufSize) ∧
    (true = true → ({ gapState with dstOff := 2016 } : State).dstOff.toNat + 32 ≤ gapState.cfg.msgbufSize) ∧
    (true = true → ({ gapState with dstOff := 2044 } : State).dstOff.toNat + 4 ≤ gapState.cfg.msgbufSize) := by decide

/-- A defined message under a key of one undefined byte, the last of MSGBUF; an undefined message under an empty key. -/
theorem test_witness_UndefinedSourceByteFaults_hmac :
    (({ source 0 abc with keyOff := 2047, keyLen := 1 } : State).srcOff.toNat + 3 ≤ State.reset.cfg.msgbufSize ∧
      ({ source 0 abc with keyOff := 2047, keyLen := 1 } : State).keyOff.toNat + 1 ≤ State.reset.cfg.msgbufSize ∧
      Memory.read ({ source 0 abc with keyOff := 2047, keyLen := 1 } : State).mem (2047 + 0) = none) ∧
    (gapState.keyOff.toNat + gapState.keyLen.toNat ≤ gapState.cfg.msgbufSize ∧ 3 < gapState.srcLen.toNat ∧
      Memory.read gapState.mem (gapState.srcOff.toNat + 3) = none) := by decide

/-- No byte of the key is defined; each family's value ends at the end of MSGBUF. -/
theorem test_witness_UndefinedSourceByteFaults_xaddrEncode :
    (({ State.reset with xaFamily := 1, hdrOff := 2028, dstOff := 2040 } : State).hdrOff.toNat + 4 + 16 ≤ State.reset.cfg.msgbufSize ∧
      ({ State.reset with xaFamily := 1, hdrOff := 2028, dstOff := 2040 } : State).dstOff.toNat + 4 + 4 ≤ State.reset.cfg.msgbufSize) ∧
    (({ State.reset with xaFamily := 2, hdrOff := 2028, dstOff := 2028 } : State).dstOff.toNat + 4 + 16 ≤ State.reset.cfg.msgbufSize) ∧
    15 < 16 ∧ Memory.read State.reset.mem (2028 + 4 + 15) = none := by decide

/-- A value of which only the family byte is defined, for each family; and one of four bytes with none defined. -/
def familyOnly (f : Byte) (len : Word) : State := { memWrite State.reset 1 [f] with srcLen := len, hdrOff := 2028 }

theorem test_witness_UndefinedSourceByteFaults_xaddrDecode :
    (({ State.reset with srcOff := 2044, srcLen := 4 } : State).srcOff.toNat + 4 ≤ State.reset.cfg.msgbufSize ∧
      Memory.read State.reset.mem (2044 + 1) = none) ∧
    ((familyOnly 1 8).srcOff.toNat + (familyOnly 1 8).srcLen.toNat ≤ (familyOnly 1 8).cfg.msgbufSize ∧
      (familyOnly 1 8).hdrOff.toNat + 4 + 16 ≤ (familyOnly 1 8).cfg.msgbufSize ∧
      Memory.read (familyOnly 1 8).mem ((familyOnly 1 8).srcOff.toNat + 1) = some 1 ∧ (familyOnly 1 8).srcLen.toNat = 4 + 4 ∧
      5 < 2 + 4 ∧ Memory.read (familyOnly 1 8).mem ((familyOnly 1 8).srcOff.toNat + 2 + 5) = none ∧
      Memory.read (familyOnly 1 8).mem ((familyOnly 1 8).hdrOff.toNat + 4 + 15) = none) ∧
    (Memory.read (familyOnly 2 20).mem ((familyOnly 2 20).srcOff.toNat + 1) = some 2 ∧ (familyOnly 2 20).srcLen.toNat = 4 + 16 ∧
      17 < 2 + 16 ∧ Memory.read (familyOnly 2 20).mem ((familyOnly 2 20).srcOff.toNat + 2 + 17) = none) := by decide

theorem test_witness_UndefinedSourceByteFaults_busRead :
    (0x107FC : BusAddr).toNat = 0x10000 + 4 * 511 ∧ 4 * 511 < gapState.cfg.msgbufSize ∧ 3 < 4 ∧
    Memory.read gapState.mem (4 * 511 + 3) = none := by decide

/-- The block of zero bytes has the schedule of zero words, in SHA-1 and in SHA-256. -/
theorem test_witness_PipelinesAreSchedules :
    (∀ t, t < 16 → (0 : Word) = be32 (slice (List.replicate 64 0) (4 * t) (4 * t + 4))) ∧
    (0 : Word) = rotl 1 (0 ^^^ 0 ^^^ 0 ^^^ 0) ∧ (0 : Word) = smallSigma1 0 + 0 + smallSigma0 0 + 0 ∧ 15 + 64 ≤ 79 ∧ 15 + 48 ≤ 63 := by
  decide

/-- 55 bytes need no zero byte, 56 the most. -/
theorem test_witness_HashIsPaddedBlocks :
    (0 < 64 ∧ ((List.replicate 55 (0x61 : Byte)).length + 1 + 0 + 8) % 64 = 0) ∧
    (63 < 64 ∧ ((List.replicate 56 (0x61 : Byte)).length + 1 + 63 + 8) % 64 = 0) := by decide

/-- Both streams open, "abc" as the last three bytes of MSGBUF, and n at the most that three more bytes allow. -/
def streamState : State :=
  { source 2045 abc with
    ctx1 := { freshCtx sha1IV with n := 2 ^ 61 - 4 }
    ctx2 := { freshCtx sha256IV with n := 2 ^ 61 - 4 } }

theorem test_witness_UpdateAbsorbsRange :
    streamState.srcOff.toNat + streamState.srcLen.toNat ≤ streamState.cfg.msgbufSize ∧
    abc.length = streamState.srcLen.toNat ∧ Memory.holds streamState.mem streamState.srcOff.toNat abc ∧
    streamState.ctx1.valid = true ∧ streamState.ctx1.n + streamState.srcLen.toNat ≤ 2 ^ 61 - 1 ∧
    streamState.ctx2.valid = true ∧ streamState.ctx2.n + streamState.srcLen.toNat ≤ 2 ^ 61 - 1 :=
  ⟨by decide, by decide, holds_of (by decide), rfl, by decide, rfl, by decide⟩

/-- S1-14 for TOO_LONG; one byte too far for each range. -/
theorem test_witness_StreamErrorsInOrder :
    (State.reset.cfg.msgbufSize < ({ streamState with srcLen := 4 } : State).srcOff.toNat + 4) ∧
    (State.reset.srcOff.toNat + State.reset.srcLen.toNat ≤ State.reset.cfg.msgbufSize ∧
      State.reset.ctx1.valid = false ∧ State.reset.ctx2.valid = false) ∧
    (({ streamState with srcOff := 2044, srcLen := 4 } : State).srcOff.toNat + 4 ≤ State.reset.cfg.msgbufSize ∧
      2 ^ 61 - 1 < streamState.ctx1.n + 4 ∧ 2 ^ 61 - 1 < streamState.ctx2.n + 4) ∧
    State.reset.cfg.msgbufSize < ({ State.reset with dstOff := 2029 } : State).dstOff.toNat + 20 ∧
    State.reset.cfg.msgbufSize < ({ State.reset with dstOff := 2017 } : State).dstOff.toNat + 32 ∧
    ({ State.reset with dstOff := 2028 } : State).dstOff.toNat + 20 ≤ State.reset.cfg.msgbufSize ∧
    ({ State.reset with dstOff := 2016 } : State).dstOff.toNat + 32 ≤ State.reset.cfg.msgbufSize := by decide

theorem test_witness_Sha1FinalReportsDigest :
    ({ streamState with dstOff := 2028 } : State).ctx1.valid = true ∧
    (true = true → ({ streamState with dstOff := 2028 } : State).dstOff.toNat + 20 ≤ State.reset.cfg.msgbufSize) := by decide

theorem test_witness_Sha256FinalReportsDigest :
    ({ streamState with dstOff := 2016 } : State).ctx2.valid = true ∧
    (true = true → ({ streamState with dstOff := 2016 } : State).dstOff.toNat + 32 ≤ State.reset.cfg.msgbufSize) := by decide

theorem test_witness_Sha1OneShotResult :
    (source 2045 abc).srcOff.toNat + (source 2045 abc).srcLen.toNat ≤ (source 2045 abc).cfg.msgbufSize ∧
    (true = true → (source 2045 abc).dstOff.toNat + 20 ≤ (source 2045 abc).cfg.msgbufSize) ∧
    abc.length = (source 2045 abc).srcLen.toNat ∧ Memory.holds (source 2045 abc).mem (source 2045 abc).srcOff.toNat abc :=
  ⟨by decide, by decide, by decide, holds_of (by decide)⟩

theorem test_witness_Sha256OneShotResult :
    (source 2048 []).srcOff.toNat + (source 2048 []).srcLen.toNat ≤ (source 2048 []).cfg.msgbufSize ∧
    (true = true → (source 2048 []).dstOff.toNat + 32 ≤ (source 2048 []).cfg.msgbufSize) ∧
    ([] : List Byte).length = (source 2048 []).srcLen.toNat ∧ Memory.holds (source 2048 []).mem (source 2048 []).srcOff.toNat [] :=
  ⟨by decide, by decide, by decide, holds_of (by decide)⟩

/-- The runs of S1-13: INIT, UPDATE over "a", UPDATE over "bc", FINAL. -/
def chunkA : State := { source 0 abc with srcLen := 1 }
def chunkB (s : State) : State := { s with srcOff := 1, srcLen := 2 }
def stream1 : State := after .sha1Update (chunkB (after .sha1Update (after .sha1Init chunkA)))
def stream2 : State := after .sha256Update (chunkB (after .sha256Update (after .sha256Init chunkA)))

theorem test_witness_StreamedHashIsOneShot_sha1 :
    exec .sha1Init chunkA = .next (after .sha1Init chunkA) ∧
    [0x61].length = (after .sha1Init chunkA).srcLen.toNat ∧ Memory.holds (after .sha1Init chunkA).mem 0 [0x61] ∧
    exec .sha1Update (after .sha1Init chunkA) = .next (after .sha1Update (after .sha1Init chunkA)) ∧
    (after .sha1Update (after .sha1Init chunkA)).status.errcode = .ok ∧
    Memory.holds (chunkB (after .sha1Update (after .sha1Init chunkA))).mem 1 [0x62, 0x63] ∧
    exec .sha1Update (chunkB (after .sha1Update (after .sha1Init chunkA))) = .next stream1 ∧ stream1.status.errcode = .ok ∧
    exec (.sha1Final true) stream1 = .next (after (.sha1Final true) stream1) ∧
    (after (.sha1Final true) stream1).status.errcode = .ok :=
  ⟨exec_after (by decide), by decide, holds_of (by decide), exec_after (by decide), by decide, holds_of (by decide),
    exec_after (by decide), by decide, exec_after (by decide +kernel), by decide +kernel⟩

theorem test_witness_StreamedHashIsOneShot_sha256 :
    exec .sha256Init chunkA = .next (after .sha256Init chunkA) ∧
    Memory.holds (after .sha256Init chunkA).mem 0 [0x61] ∧
    exec .sha256Update (after .sha256Init chunkA) = .next (after .sha256Update (after .sha256Init chunkA)) ∧
    (after .sha256Update (after .sha256Init chunkA)).status.errcode = .ok ∧
    Memory.holds (chunkB (after .sha256Update (after .sha256Init chunkA))).mem 1 [0x62, 0x63] ∧
    exec .sha256Update (chunkB (after .sha256Update (after .sha256Init chunkA))) = .next stream2 ∧ stream2.status.errcode = .ok ∧
    exec (.sha256Final true) stream2 = .next (after (.sha256Final true) stream2) ∧
    (after (.sha256Final true) stream2).status.errcode = .ok :=
  ⟨exec_after (by decide), holds_of (by decide), exec_after (by decide), by decide, holds_of (by decide),
    exec_after (by decide), by decide, exec_after (by decide +kernel), by decide +kernel⟩

theorem test_witness_StreamsPersist :
    step (busyWith 1 State.reset) = .next (stepped (busyWith 1 State.reset)) ∧
    (stepped (busyWith 1 State.reset)).ctx1 ≠ State.reset.ctx1 ∧
    step (busyWith 5 State.reset) = .next (stepped (busyWith 5 State.reset)) ∧
    (stepped (busyWith 5 State.reset)).ctx2 ≠ State.reset.ctx2 := ⟨rfl, by decide, rfl, by decide⟩

/-- A key of 65 bytes at the end of MSGBUF, one longer than a block. -/
def longKey : List Byte := List.replicate 65 0xAA

def hmacState : State := withKey 1983 longKey (source 0 abc)

theorem test_witness_HmacSha1Result :
    hmacState.srcOff.toNat + hmacState.srcLen.toNat ≤ hmacState.cfg.msgbufSize ∧
    hmacState.keyOff.toNat + hmacState.keyLen.toNat ≤ hmacState.cfg.msgbufSize ∧
    (true = true → hmacState.dstOff.toNat + 20 ≤ hmacState.cfg.msgbufSize) ∧
    abc.length = hmacState.srcLen.toNat ∧ Memory.holds hmacState.mem hmacState.srcOff.toNat abc ∧
    longKey.length = hmacState.keyLen.toNat ∧ Memory.holds hmacState.mem hmacState.keyOff.toNat longKey ∧ 64 < longKey.length :=
  ⟨by decide, by decide, by decide, by decide, holds_of (by decide), by decide, holds_of (by decide +kernel), by decide⟩

/-- An empty key and an empty message (H-3). -/
theorem test_witness_HmacSha256Result :
    State.reset.srcOff.toNat + State.reset.srcLen.toNat ≤ State.reset.cfg.msgbufSize ∧
    State.reset.keyOff.toNat + State.reset.keyLen.toNat ≤ State.reset.cfg.msgbufSize ∧
    (true = true → State.reset.dstOff.toNat + 32 ≤ State.reset.cfg.msgbufSize) ∧
    ([] : List Byte).length = State.reset.srcLen.toNat ∧ Memory.holds State.reset.mem State.reset.srcOff.toNat [] ∧
    ([] : List Byte).length = State.reset.keyLen.toNat ∧ Memory.holds State.reset.mem State.reset.keyOff.toNat [] :=
  ⟨by decide, by decide, by decide, by decide, holds_of (by decide), by decide, holds_of (by decide)⟩

theorem test_witness_CrcCommandsResult :
    ({ source 0 abc with dstOff := 2044 } : State).srcOff.toNat + ({ source 0 abc with dstOff := 2044 } : State).srcLen.toNat ≤
      State.reset.cfg.msgbufSize ∧
    (true = true → ({ source 0 abc with dstOff := 2044 } : State).dstOff.toNat + 4 ≤ State.reset.cfg.msgbufSize) ∧
    abc.length = (source 0 abc).srcLen.toNat ∧ Memory.holds (source 0 abc).mem (source 0 abc).srcOff.toNat abc :=
  ⟨by decide, by decide, by decide, holds_of (by decide)⟩

/-- F-7: the trailer alone, in the last eight bytes of MSGBUF; F-9: seven bytes. -/
def trailerState : State := source 2040 [0x80, 0x28, 0x00, 0x04, 0x53, 0x54, 0x55, 0x4E]

theorem test_witness_FpVerifyResult :
    (trailerState.srcOff.toNat + trailerState.srcLen.toNat ≤ trailerState.cfg.msgbufSize ∧
      ([] : List Byte).length + 8 = trailerState.srcLen.toNat ∧
      Memory.holds trailerState.mem trailerState.srcOff.toNat
        ([] ++ [0x80, 0x28, 0x00, 0x04] ++ [0x53, 0x54, 0x55, 0x4E])) ∧
    (({ State.reset with srcLen := 7 } : State).srcOff.toNat + 7 ≤ State.reset.cfg.msgbufSize ∧
      ({ State.reset with srcLen := 7 } : State).srcLen.toNat < 8) :=
  ⟨⟨by decide, by decide, holds_of (by decide)⟩, by decide, by decide⟩

/-- "abc" followed by the attribute's type and length; then FINGERPRINT.s; then the whole message. -/
def unsigned : State := { source 0 (abc ++ [0x80, 0x28, 0x00, 0x04]) with srcLen := 3, dstOff := 7 }
def signed : State := { after (.fingerprint true) unsigned with srcLen := 11 }

theorem test_witness_FreshFingerprintVerifies :
    abc.length = unsigned.srcLen.toNat ∧ Memory.holds unsigned.mem unsigned.srcOff.toNat abc ∧
    exec (.fingerprint true) unsigned = .next (after (.fingerprint true) unsigned) ∧
    (after (.fingerprint true) unsigned).status.errcode = .ok ∧
    unsigned.dstOff.toNat = unsigned.srcOff.toNat + unsigned.srcLen.toNat + 4 ∧
    Memory.holds unsigned.mem (unsigned.srcOff.toNat + unsigned.srcLen.toNat) [0x80, 0x28, 0x00, 0x04] ∧
    signed.cfg = (after (.fingerprint true) unsigned).cfg ∧ signed.mem = (after (.fingerprint true) unsigned).mem ∧
    signed.srcOff = unsigned.srcOff ∧ signed.srcLen.toNat = unsigned.srcLen.toNat + 8 ∧
    exec .fpVerify signed = .next (after .fpVerify signed) :=
  ⟨by decide, holds_of (by decide), exec_after (by decide +kernel), by decide +kernel, by decide, holds_of (by decide),
    rfl, rfl, by decide +kernel, by decide, exec_after (by decide +kernel)⟩

/-- F-7 with its second byte changed, as in F-8. -/
def changedState : State := memWrite trailerState 2040 ([0x80, 0x28, 0x00, 0x04, 0x53, 0x54, 0x55, 0x4E].set 1 0x29)

theorem test_witness_ChangedByteFailsVerification :
    ([0x80, 0x28, 0x00, 0x04, 0x53, 0x54, 0x55, 0x4E] : List Byte).length = trailerState.srcLen.toNat ∧
    Memory.holds trailerState.mem trailerState.srcOff.toNat [0x80, 0x28, 0x00, 0x04, 0x53, 0x54, 0x55, 0x4E] ∧
    exec .fpVerify trailerState = .next (after .fpVerify trailerState) ∧
    (after .fpVerify trailerState).status.fpMatch = true ∧
    changedState.srcOff = trailerState.srcOff ∧ changedState.srcLen = trailerState.srcLen ∧
    Memory.holds changedState.mem changedState.srcOff.toNat
      ([0x80, 0x28, 0x00, 0x04, 0x53, 0x54, 0x55, 0x4E].set 1
        (byteAt [0x80, 0x28, 0x00, 0x04, 0x53, 0x54, 0x55, 0x4E] 1 ^^^ 0x01)) ∧
    exec .fpVerify changedState = .next (after .fpVerify changedState) :=
  ⟨by decide, holds_of (by decide), exec_after (by decide +kernel), by decide +kernel, rfl, rfl, holds_of (by decide),
    exec_after (by decide +kernel)⟩

theorem test_witness_HdrEncodeResult :
    ({ State.reset with dstOff := 2028 } : State).dstOff.toNat + 20 ≤ State.reset.cfg.msgbufSize ∧
    State.reset.cfg.msgbufSize < ({ State.reset with dstOff := 2029 } : State).dstOff.toNat + 20 := by decide

/-- Source vector 1 in the last 36 bytes of MSGBUF, its attribute bytes undefined. -/
def vectorState : State := { source 2012 vector1 with srcLen := 36 }

theorem test_witness_HdrDecodeResult :
    vectorState.srcOff.toNat + vectorState.srcLen.toNat ≤ vectorState.cfg.msgbufSize ∧ vector1.length = 20 ∧
    Memory.holds vectorState.mem vectorState.srcOff.toNat vector1 ∧ (0x0101 : Half) = be16 (slice vector1 0 2) ∧
    (0x0010 : Half) = be16 (slice vector1 2 4) ∧ (0x0101 : Half).toNat < 0x4000 ∧ (0x0010 : Half).toNat % 4 = 0 ∧
    20 + (0x0010 : Half).toNat = vectorState.srcLen.toNat ∧ slice vector1 4 8 = [0x21, 0x12, 0xA4, 0x42] :=
  ⟨by decide, by decide, holds_of (by decide), by decide, by decide, by decide, by decide, by decide, by decide⟩

/-- A header `h` alone in the last 20 bytes of MSGBUF meets the premises of the checks on its content. -/
theorem test_witness_HdrDecodeValidationOrder :
    (({ State.reset with srcLen := 19 } : State).srcOff.toNat + 19 ≤ State.reset.cfg.msgbufSize ∧
      ({ State.reset with srcLen := 19 } : State).srcLen.toNat < 20) ∧
    ((source 2028 (header8 0x40 0x00 0x00 0x03 [0, 0, 0, 0])).srcOff.toNat + 20 ≤ State.reset.cfg.msgbufSize ∧
      (source 2028 (header8 0x40 0x00 0x00 0x03 [0, 0, 0, 0])).srcLen.toNat = 20 ∧
      Memory.holds (source 2028 (header8 0x40 0x00 0x00 0x03 [0, 0, 0, 0])).mem 2028 (header8 0x40 0x00 0x00 0x03 [0, 0, 0, 0]) ∧
      0x4000 ≤ (be16 (slice (header8 0x40 0x00 0x00 0x03 [0, 0, 0, 0]) 0 2)).toNat) ∧
    (Memory.holds (source 2028 (header8 0x3F 0xFF 0x00 0x03 [0, 0, 0, 0])).mem 2028 (header8 0x3F 0xFF 0x00 0x03 [0, 0, 0, 0]) ∧
      (be16 (slice (header8 0x3F 0xFF 0x00 0x03 [0, 0, 0, 0]) 0 2)).toNat < 0x4000 ∧
      (be16 (slice (header8 0x3F 0xFF 0x00 0x03 [0, 0, 0, 0]) 2 4)).toNat % 4 ≠ 0) ∧
    (Memory.holds (source 2028 (header8 0x3F 0xFF 0x00 0x04 [0, 0, 0, 0])).mem 2028 (header8 0x3F 0xFF 0x00 0x04 [0, 0, 0, 0]) ∧
      (be16 (slice (header8 0x3F 0xFF 0x00 0x04 [0, 0, 0, 0]) 0 2)).toNat < 0x4000 ∧
      (be16 (slice (header8 0x3F 0xFF 0x00 0x04 [0, 0, 0, 0]) 2 4)).toNat % 4 = 0 ∧
      20 + (be16 (slice (header8 0x3F 0xFF 0x00 0x04 [0, 0, 0, 0]) 2 4)).toNat ≠
        (source 2028 (header8 0x3F 0xFF 0x00 0x04 [0, 0, 0, 0])).srcLen.toNat) ∧
    (Memory.holds (source 2028 (header8 0x3F 0xFF 0x00 0x00 [0x21, 0x12, 0xA4, 0x43])).mem 2028
        (header8 0x3F 0xFF 0x00 0x00 [0x21, 0x12, 0xA4, 0x43]) ∧
      20 + (be16 (slice (header8 0x3F 0xFF 0x00 0x00 [0x21, 0x12, 0xA4, 0x43]) 2 4)).toNat =
        (source 2028 (header8 0x3F 0xFF 0x00 0x00 [0x21, 0x12, 0xA4, 0x43])).srcLen.toNat ∧
      be32 (slice (header8 0x3F 0xFF 0x00 0x00 [0x21, 0x12, 0xA4, 0x43]) 4 8) ≠ 0x2112A442) :=
  ⟨by decide, ⟨by decide, by decide, holds_of (by decide), by decide⟩, ⟨holds_of (by decide), by decide, by decide⟩,
    ⟨holds_of (by decide), by decide, by decide, by decide⟩, ⟨holds_of (by decide), by decide, by decide⟩⟩

/-- E-9: a header of class 0x0110 and method 0x3EEF at the end of MSGBUF, encoded, then decoded where it stands. -/
def encodeState : State := { State.reset with hdrClass := 0x0110, hdrMethod := 0x3EEF, dstOff := 2028, txid0 := 7 }
def reread : State := { after .hdrEncode encodeState with srcOff := 2028, srcLen := 20 }

theorem test_witness_HeaderRoundTrip :
    exec .hdrDecode reread = .next (after .hdrDecode reread) ∧ (after .hdrDecode reread).status.errcode = .ok ∧
    exec .hdrEncode encodeState = .next (after .hdrEncode encodeState) ∧ (after .hdrEncode encodeState).status.errcode = .ok ∧
    encodeState.hdrLength.toNat % 4 = 0 ∧ reread.srcOff = encodeState.dstOff ∧
    reread.srcLen.toNat = 20 + encodeState.hdrLength.toNat ∧ reread.srcOff.toNat + reread.srcLen.toNat ≤ reread.cfg.msgbufSize ∧
    (∀ i, i < 20 → Memory.read reread.mem (encodeState.dstOff.toNat + i) =
      Memory.read (after .hdrEncode encodeState).mem (encodeState.dstOff.toNat + i)) ∧
    encodeState.hdrClass &&& ~~~0x0110 = 0 ∧ encodeState.hdrMethod &&& ~~~0x3EEF = 0 :=
  ⟨exec_after (by decide +kernel), by decide +kernel, exec_after (by decide), by decide, by decide, rfl, by decide, by decide +kernel,
    fun _ _ => rfl, by decide, by decide⟩

/-- Row X-1, and the longest value, at the ends of MSGBUF. -/
def keyBytes : List Byte := [0x21, 0x12, 0xA4, 0x42] ++ txid
def xaddr4 : State :=
  { memWrite State.reset 2032 keyBytes with hdrOff := 2028, dstOff := 2040, xaFamily := 1, xaPort := 0x8055, xaAddr0 := 0xC0000201 }
def xaddr6 : State := { xaddr4 with dstOff := 2028, xaFamily := 2, xaAddr1 := 1, xaAddr2 := 2, xaAddr3 := 3 }

theorem test_witness_XaddrEncodeResult :
    (xaddr4.xaFamily = 1 ∧ xaddr4.hdrOff.toNat + 4 + 16 ≤ xaddr4.cfg.msgbufSize ∧
      xaddr4.dstOff.toNat + 4 + 4 ≤ xaddr4.cfg.msgbufSize) ∧
    (xaddr6.xaFamily = 2 ∧ xaddr6.hdrOff.toNat + 4 + 16 ≤ xaddr6.cfg.msgbufSize ∧
      xaddr6.dstOff.toNat + 4 + 16 ≤ xaddr6.cfg.msgbufSize) ∧
    keyBytes.length = 16 ∧ Memory.holds xaddr4.mem (xaddr4.hdrOff.toNat + 4) keyBytes ∧
    Memory.holds xaddr6.mem (xaddr6.hdrOff.toNat + 4) keyBytes :=
  ⟨by decide, by decide, by decide, holds_of (by decide), holds_of (by decide)⟩

/-- A value of each family read from MSGBUF's start, its reserved byte undefined. -/
def valueState (f : Byte) (v : List Byte) : State :=
  { memWrite xaddr4 1 ([f] ++ v) with srcLen := BitVec.ofNat 32 (2 + v.length) }

theorem test_witness_XaddrDecodeResult :
    ((valueState 1 (List.replicate 6 0xA1)).srcLen.toNat = 4 + 4 ∧
      Memory.holds (valueState 1 (List.replicate 6 0xA1)).mem (0 + 1) ([0x01] ++ List.replicate 6 0xA1) ∧
      Memory.holds (valueState 1 (List.replicate 6 0xA1)).mem 2032 keyBytes) ∧
    ((valueState 2 (List.replicate 18 0xA1)).srcLen.toNat = 4 + 16 ∧
      Memory.holds (valueState 2 (List.replicate 18 0xA1)).mem (0 + 1) ([0x02] ++ List.replicate 18 0xA1) ∧
      Memory.holds (valueState 2 (List.replicate 18 0xA1)).mem 2032 keyBytes ∧
      (valueState 2 (List.replicate 18 0xA1)).srcOff.toNat + 20 ≤ State.reset.cfg.msgbufSize ∧
      (valueState 2 (List.replicate 18 0xA1)).hdrOff.toNat + 4 + 16 ≤ State.reset.cfg.msgbufSize) :=
  ⟨⟨by decide, holds_of (by decide), holds_of (by decide)⟩,
    ⟨by decide, holds_of (by decide), holds_of (by decide), by decide, by decide⟩⟩

/-- X-6 to X-12 at their boundaries. -/
theorem test_witness_XaddrErrorsInOrder :
    (State.reset.xaFamily ≠ 1 ∧ State.reset.xaFamily ≠ 2) ∧
    (xaddr4.xaFamily = 1 ∧ xaddr4.cfg.msgbufSize < ({ xaddr4 with hdrOff := 2029 } : State).hdrOff.toNat + 20) ∧
    (xaddr4.hdrOff.toNat + 20 ≤ xaddr4.cfg.msgbufSize ∧
      xaddr4.cfg.msgbufSize < ({ xaddr4 with dstOff := 2041 } : State).dstOff.toNat + 8 ∧
      xaddr6.cfg.msgbufSize < ({ xaddr6 with dstOff := 2029 } : State).dstOff.toNat + 20) ∧
    (xaddr4.srcOff.toNat + xaddr4.srcLen.toNat ≤ xaddr4.cfg.msgbufSize ∧ xaddr4.srcLen.toNat < 4) ∧
    (4 ≤ (valueState 3 [0, 0]).srcLen.toNat ∧ Memory.read (valueState 3 [0, 0]).mem (0 + 1) = some 3) ∧
    (Memory.read (valueState 1 (List.replicate 18 0)).mem (0 + 1) = some 1 ∧ (valueState 1 (List.replicate 18 0)).srcLen.toNat ≠ 8) ∧
    (Memory.read (valueState 2 (List.replicate 6 0)).mem (0 + 1) = some 2 ∧ (valueState 2 (List.replicate 6 0)).srcLen.toNat ≠ 20) := by
  decide

/-- X-1 encoded at offset 0, then decoded where it stands. -/
def xaSent : State := { xaddr4 with dstOff := 0 }
def xaRead : State := { after .xaddrEncode xaSent with srcOff := 0, srcLen := 8 }

theorem test_witness_XorAddressRoundTrip :
    exec .xaddrEncode xaSent = .next (after .xaddrEncode xaSent) ∧ (after .xaddrEncode xaSent).status.errcode = .ok ∧
    xaRead.cfg = xaSent.cfg ∧ xaRead.hdrOff = xaSent.hdrOff ∧ xaRead.srcOff = xaSent.dstOff ∧
    xaRead.srcLen = (after .xaddrEncode xaSent).xaLen.setWidth 32 ∧
    (∀ i, i < 16 → Memory.read xaRead.mem (xaSent.hdrOff.toNat + 4 + i) = Memory.read xaSent.mem (xaSent.hdrOff.toNat + 4 + i)) ∧
    (∀ i, i < (after .xaddrEncode xaSent).xaLen.toNat →
      Memory.read xaRead.mem (xaSent.dstOff.toNat + i) = Memory.read (after .xaddrEncode xaSent).mem (xaSent.dstOff.toNat + i)) :=
  ⟨exec_after (by decide +kernel), by decide +kernel, by decide +kernel, by decide +kernel, by decide +kernel, by decide +kernel,
    by decide +kernel, fun _ _ => rfl⟩

end Sys2Proof.Tests
end

section
/-! SUPPORT. The invariant `State.Inv` and the parameter along every operation of the model, and the obligation on them (O10): first the
parts of the state (contexts, header type, address value), then one lemma per shared operation, then the EXEC rules, the bus, the step. -/

namespace Sys2Proof.Machine

/-! ## The streaming contexts keep their shape (10_state.md R45, R46) -/

section Context

variable {σ : Type} (zero : σ)

theorem HashCtx.wf_cleared : (HashCtx.cleared zero).wf zero :=
  ⟨rfl, Nat.zero_le _, fun _ => rfl⟩

/-- An opened stream is valid, so that only its buffer and its count are asked. -/
theorem HashCtx.wf_freshCtx (iv : σ) : (freshCtx iv).wf zero :=
  ⟨rfl, Nat.zero_le _, fun h => nomatch h⟩

/-- Absorbing within the length limit of 41_sha1.md R124 keeps the shape of a valid context. -/
theorem HashCtx.wf_absorb {zero : σ} (compress : σ → List Byte → σ) {c : HashCtx σ} {m : List Byte} (hc : c.wf zero)
    (hvalid : c.valid = true) (hn : c.n + m.length ≤ maxStreamBytes) : (absorb compress c m).wf zero := by
  obtain ⟨hbuf, -, -⟩ := hc
  refine ⟨?_, hn, fun hv => ?_⟩
  · rw [absorb_buf_length compress c m (by omega), absorb_n, hbuf]
    omega
  · rw [absorb_valid, hvalid] at hv
    cases hv

end Context

/-! ## The values that registers and MSGBUF receive -/

theorem sha1Digest_length (m : List Byte) : (sha1Digest m).length = 20 := bytesOfWords5_length _

theorem sha256Digest_length (m : List Byte) : (sha256Digest m).length = 32 := bytesOfWords8_length _

theorem hmac_sha1Digest_length (kb m : List Byte) : (hmac sha1Digest kb m).length = 20 := sha1Digest_length _

theorem hmac_sha256Digest_length (kb m : List Byte) : (hmac sha256Digest kb m).length = 32 := sha256Digest_length _

/-- The mask 0x3FFF clears the two leading bits of the type that HDR_ENCODE writes (44_stun_header.md R146). -/
theorem messageType_leadingBits (cls method : Half) : (messageType cls method).extractLsb' 14 2 = 0 := by
  rw [messageType, BitVec.extractLsb'_and]
  exact BitVec.zero_and

theorem addressLen_eq (f : Byte) : addressLen f = 4 ∨ addressLen f = 16 := by
  unfold addressLen
  split
  · exact .inl rfl
  · exact .inr rfl

/-- The value that both XOR-address commands leave in XA_LEN (10_state.md R43). -/
theorem valueLen_eq (f : Byte) : BitVec.ofNat 8 (4 + addressLen f) = 8 ∨ BitVec.ofNat 8 (4 + addressLen f) = 20 := by
  rcases addressLen_eq f with h | h
  · exact .inl (by rw [h]; rfl)
  · exact .inr (by rw [h]; rfl)

/-- XADDR_ENCODE writes no more bytes than its range check has asked for, however many key bytes there are. -/
theorem xorValue_length_le (s : State) (k : List Byte) : (xorValue s k).length ≤ 4 + addressLen s.xaFamily := by
  have haddr : (encodeAddress s).length = addressLen s.xaFamily := by
    unfold encodeAddress addressLen
    split <;> rfl
  simp only [xorValue, xaddr, xorBytes, List.length_append, List.length_cons, List.length_nil, bytes16_length,
    List.length_zipWith, haddr]
  omega

/-! ## The invariant with the parameter fixed -/

/-- A state with the parameter `c` that meets the invariant: what a step keeps, in one predicate. -/
structure State.InvFor (c : Config) (s : State) : Prop extends State.Inv s where
  param : s.cfg = c

theorem State.Inv.invFor {s : State} (h : s.Inv) : s.InvFor s.cfg := { h with param := rfl }

/-- Every field takes its value of 70_reset_and_hazards.md R183; MSGBUF is undefined, which is its canonical form. -/
theorem State.powerOnReset_invFor {c : Config} (hc : c.wf) : (State.powerOnReset c).InvFor c where
  cfg := hc
  memCanonical := rfl
  memInside := rfl
  ctx1 := HashCtx.wf_cleared _
  ctx2 := HashCtx.wf_cleared _
  cookie := .inl rfl
  validCookie h := nomatch h
  leadingBits := by rw [powerOnReset_hdrType]; rfl
  xaLen := .inl rfl
  param := rfl

namespace State.InvFor

variable {c : Config} {s : State}

/-! ## Each shared operation keeps it -/

theorem takeMove (h : s.InvFor c) : (takeMove s).InvFor c := { h with }

theorem respond (h : s.InvFor c) (r : BusResponse) : (respond s r).InvFor c := { h with }

theorem complete (h : s.InvFor c) (op : Byte) (code : ErrCode) : (complete op code s).InvFor c := { h with }

/-- Of STATUS the invariant reads HDR_VALID alone (10_state.md R33). -/
theorem withStatus (h : s.InvFor c) {st : Status} (hst : st.hdrValid = true → s.status.hdrValid = true) :
    State.InvFor c { s with status := st } :=
  { h with validCookie := fun hv => h.validCookie (hst hv) }

theorem setOvr (h : s.InvFor c) : (setOvr s).InvFor c := h.withStatus id

/-- A failure never sets HDR_VALID (60_exceptions.md R165). -/
theorem onFail (h : s.InvFor c) (i : Instr) : State.InvFor c { s with status := onFail i s.status } := by
  refine h.withStatus fun hv => ?_
  rw [onFail_eq] at hv
  split at hv
  · cases hv
  · exact hv

theorem memWrite (h : s.InvFor c) {off : Nat} {bs : List Byte} (hin : off + bs.length ≤ s.cfg.msgbufSize) :
    (memWrite s off bs).InvFor c :=
  { h with
    memCanonical := Memory.wf_writeBytes bs s.mem off h.memCanonical
    memInside := Memory.below_writeBytes bs s.mem hin h.memInside }

/-- The STORE write of a result of `n` bytes, where STORE's range check has passed (40_bus_and_control.md R112). -/
theorem storeResult (h : s.InvFor c) {store : Bool} {bs : List Byte} {n : Nat} (hlen : bs.length = n)
    (hin : store = true → s.dstOff.toNat + n ≤ s.cfg.msgbufSize) : (storeResult store bs s).InvFor c := by
  subst hlen
  cases store with
  | false => exact h
  | true => exact h.memWrite (hin rfl)

theorem withDigest (h : s.InvFor c) (d : Words8) : State.InvFor c { s with digest := d } := { h with }

theorem withCrcOut (h : s.InvFor c) (w : Word) : State.InvFor c { s with crcOut := w } := { h with }

theorem withCtx1 (h : s.InvFor c) {x : HashCtx Words5} (hx : x.wf Words5.zero) : State.InvFor c { s with ctx1 := x } :=
  { h with ctx1 := hx }

theorem withCtx2 (h : s.InvFor c) {x : HashCtx Words8} (hx : x.wf Words8.zero) : State.InvFor c { s with ctx2 := x } :=
  { h with ctx2 := hx }

theorem withHdrType (h : s.InvFor c) {t : Half} (ht : t.extractLsb' 14 2 = 0) : State.InvFor c { s with hdrType := t } :=
  { h with leadingBits := ht }

theorem withXaLen (h : s.InvFor c) {l : Byte} (hl : l = 8 ∨ l = 20) : State.InvFor c { s with xaLen := l } :=
  { h with xaLen := .inr hl }

/-- A header that passed the checks of 44_stun_header.md R149: the cookie is the magic one, so that HDR_VALID may be set. -/
theorem decodedHeader (h : s.InvFor c) {hdr : List Byte} (htype : (headerType hdr).extractLsb' 14 2 = 0)
    (hcookie : headerCookie hdr = magicCookie) (st : Status) :
    State.InvFor c { decodedHeader s hdr with status := st } :=
  { h with cookie := .inr hcookie, validCookie := fun _ => hcookie, leadingBits := htype }

theorem decodedAddress (h : s.InvFor c) (f : Byte) (v k : List Byte) : (decodedAddress s f v k).InvFor c :=
  { h with xaLen := .inr (valueLen_eq f) }

theorem powerOnInput (h : s.InvFor c) : (powerOnInput s).InvFor c :=
  { State.powerOnReset_invFor h.cfg with param := h.param }

/-- A soft reset keeps MSGBUF, and the rest is as after power-on (70_reset_and_hazards.md R184). -/
theorem softReset (h : s.InvFor c) : (softReset s).InvFor c :=
  { State.powerOnReset_invFor h.cfg with memCanonical := h.memCanonical, memInside := h.memInside, param := h.param }

/-! ## The EXEC rules -/

/-- UPDATE reads as many bytes as its length check counted. -/
theorem sha1Update {s' : State} (h : s.InvFor c) (hr : sha1UpdateRule s = .ok s') : s'.InvFor c := by
  obtain ⟨-, hvalid, hn, m, hm, rfl⟩ := sha1UpdateRule_eq_ok.1 hr
  obtain ⟨hlen, -⟩ := memRead_eq_some.1 hm
  exact h.withCtx1 (HashCtx.wf_absorb compress1 h.ctx1 hvalid (hlen ▸ hn))

theorem sha256Update {s' : State} (h : s.InvFor c) (hr : sha256UpdateRule s = .ok s') : s'.InvFor c := by
  obtain ⟨-, hvalid, hn, m, hm, rfl⟩ := sha256UpdateRule_eq_ok.1 hr
  obtain ⟨hlen, -⟩ := memRead_eq_some.1 hm
  exact h.withCtx2 (HashCtx.wf_absorb compress2 h.ctx2 hvalid (hlen ▸ hn))

/-- The effects of every EXEC rule with code OK keep the invariant (40_bus_and_control.md R109). -/
theorem rule_ok {i : Instr} {s' : State} (h : s.InvFor c) (hr : rule i s = .ok s') : s'.InvFor c := by
  cases i with
  | nop => cases hr; exact h
  | busWrite => cases hr; exact h
  | busRead => cases hr; exact h
  | sha1Init => cases hr; exact h.withCtx1 (HashCtx.wf_freshCtx _ _)
  | sha256Init => cases hr; exact h.withCtx2 (HashCtx.wf_freshCtx _ _)
  | sha1Update => exact h.sha1Update hr
  | sha256Update => exact h.sha256Update hr
  | sha1Final store =>
    obtain ⟨hdst, -, rfl⟩ := sha1FinalRule_eq_ok.1 hr
    exact ((h.withDigest (digestRegs5 _)).withCtx1 (HashCtx.wf_cleared _)).storeResult (bytesOfWords5_length _) hdst
  | sha256Final store =>
    obtain ⟨hdst, -, rfl⟩ := sha256FinalRule_eq_ok.1 hr
    exact ((h.withDigest (digestRegs8 _)).withCtx2 (HashCtx.wf_cleared _)).storeResult (bytesOfWords8_length _) hdst
  | sha1 store =>
    obtain ⟨-, hdst, m, -, rfl⟩ := sha1Rule_eq_ok.1 hr
    exact (h.withDigest _).storeResult (sha1Digest_length m) hdst
  | sha256 store =>
    obtain ⟨-, hdst, m, -, rfl⟩ := sha256Rule_eq_ok.1 hr
    exact (h.withDigest _).storeResult (sha256Digest_length m) hdst
  | hmacSha1 store =>
    obtain ⟨-, -, hdst, m, -, kb, -, rfl⟩ := hmacSha1Rule_eq_ok.1 hr
    exact (h.withDigest _).storeResult (hmac_sha1Digest_length kb m) hdst
  | hmacSha256 store =>
    obtain ⟨-, -, hdst, m, -, kb, -, rfl⟩ := hmacSha256Rule_eq_ok.1 hr
    exact (h.withDigest _).storeResult (hmac_sha256Digest_length kb m) hdst
  | crc32 store =>
    obtain ⟨-, hdst, m, -, rfl⟩ := crc32Rule_eq_ok.1 hr
    exact (h.withCrcOut _).storeResult (bytes32_length _) hdst
  | fingerprint store =>
    obtain ⟨-, hdst, m, -, rfl⟩ := fingerprintRule_eq_ok.1 hr
    exact (h.withCrcOut _).storeResult (bytes32_length _) hdst
  | fpVerify =>
    obtain ⟨-, -, m, -, rfl⟩ := fpVerifyRule_eq_ok.1 hr
    exact { h with }
  | hdrEncode =>
    obtain ⟨hdst, rfl⟩ := hdrEncodeRule_eq_ok.1 hr
    exact (h.withHdrType (messageType_leadingBits _ _)).memWrite hdst
  | hdrDecode =>
    obtain ⟨-, -, hdr, -, htype, -, -, hcookie, rfl⟩ := hdrDecodeRule_eq_ok.1 hr
    exact h.decodedHeader htype hcookie _
  | xaddrEncode =>
    obtain ⟨-, -, hdst, k, -, rfl⟩ := xaddrEncodeRule_eq_ok.1 hr
    exact (h.withXaLen (valueLen_eq _)).memWrite
      ((Nat.add_le_add_left (xorValue_length_le s k) _).trans hdst)
  | xaddrDecode =>
    obtain ⟨-, -, -, fb, -, -, -, v, -, k, -, rfl⟩ := xaddrDecodeRule_eq_ok.1 hr
    exact h.decodedAddress _ v k

/-- A command's completion keeps the invariant, whatever its code. -/
theorem exec_command {i : Instr} {op : Byte} {t : State} (h : s.InvFor c) (hop : i.opcode = some op)
    (hx : exec i s = .next t) : t.InvFor c := by
  rw [exec_eq_finishWith i op s hop] at hx
  rcases finishWith_eq_next.1 hx with ⟨s', hr, rfl⟩ | ⟨code, -, rfl⟩
  · exact (h.rule_ok hr).complete op .ok
  · exact (h.onFail i).complete op code

/-! ## The bus -/

theorem ctrlWrite (h : s.InvFor c) (d : Word) : (ctrlWrite s d).InvFor c := by
  unfold Machine.ctrlWrite
  split
  · exact h.softReset
  · exact { h with }

/-- Only CTRL writes what the invariant reads: HDR_TYPE, HDR_COOKIE and XA_LEN are read-only (10_state.md R24). -/
theorem writeReg (h : s.InvFor c) (r : Reg) (d : Word) : (writeReg s r d).InvFor c := by
  cases r
  case ctrl => exact h.ctrlWrite d
  all_goals exact { h with }

/-- A MSGBUF word that starts inside the buffer ends inside it, since the size is a multiple of 4 (00_scope.md R6). -/
theorem exec_busWrite {a : BusAddr} {d : Word} {t : State} (h : s.InvFor c) (hx : exec (.busWrite a d) s = .next t) :
    t.InvFor c := by
  rcases busWrite_eq_next hx with rfl | ⟨-, -, rfl⟩ | ⟨i, hi, -, rfl⟩ | ⟨row, -, -, rfl⟩
  · exact h.respond _
  · exact h.setOvr.respond _
  · refine (h.memWrite ?_).respond _
    obtain ⟨-, hlt⟩ := busTarget_eq_msgWord hi
    obtain ⟨hmul, -, -⟩ := h.cfg
    rw [bytes32_length]
    omega
  · exact (h.writeReg row.reg d).respond _

theorem exec_busRead {a : BusAddr} {t : State} (h : s.InvFor c) (hx : exec (.busRead a) s = .next t) : t.InvFor c := by
  obtain ⟨r, rfl⟩ := busRead_eq_next hx
  exact h.respond r

theorem exec_decodeBus {w : BusTxn} {t : State} (h : s.InvFor c) (hx : exec (decodeBus w) s = .next t) : t.InvFor c := by
  unfold decodeBus at hx
  split at hx
  · exact h.exec_busWrite hx
  · exact h.exec_busRead hx

/-! ## The step -/

/-- Every move of every agent keeps the invariant and the parameter. -/
theorem step_next {t : State} (h : s.InvFor c) (hs : step s = .next t) : t.InvFor c := by
  rcases step_eq_next hs with ⟨-, -, rfl⟩ | ⟨-, -, i, hi, hx⟩ | ⟨-, -, -, rfl⟩ | ⟨size, w, rest, -, -, rfl⟩ |
    ⟨w, rest, -, hx⟩ | ⟨rest, -, rfl⟩
  · exact h.takeMove
  · exact h.takeMove.exec_command (opcode_of_decode hi) hx
  · exact h.takeMove.complete _ _
  · exact h.takeMove.respond _
  · exact h.takeMove.exec_decodeBus hx
  · exact h.takeMove.powerOnInput

end State.InvFor

/-- Settles O10: one case per move (`State.InvFor.step_next`), each by what its operations write of the fields the invariant reads. -/
theorem stepKeepsInvariant : Obligations.StepKeepsInvariant := by
  intro s t hs hstep
  have ht : t.InvFor s.cfg := hs.invFor.step_next hstep
  exact ⟨ht.toInv, ht.param⟩

end Sys2Proof.Machine
end

section
/-! SUPPORT. What a move may do to STATUS, to MSGBUF and to each result register, once: the frame of every command by the columns of
10_state.md R21 and 20_memory.md R65 (O29), the bus at a register's own address, and every way in which a step changes STATUS. -/

namespace Sys2Proof.Machine

/-! ## MSGBUF: a write never makes a byte undefined (10_state.md R44) -/

theorem Memory.isSome_read_writeBytes {m : Memory} {a : Nat} (off : Nat) (bs : List Byte) (h : (Memory.read m a).isSome = true) :
    (Memory.read (Memory.writeBytes m off bs) a).isSome = true := by
  rw [Memory.read_writeBytes]
  split
  · next hin => rw [List.getElem?_eq_getElem (by omega)]; rfl
  · exact h

/-! ## The frame of a command -/

/-- The three W1C bits are not cleared from `st` to `st'` (10_state.md R30-R32). -/
structure Status.KeepsW1C (st st' : Status) : Prop where
  done : st.done = true → st'.done = true
  err : st.err = true → st'.err = true
  ovr : st.ovr = true → st'.ovr = true

/-- Everything that `t` holds other than `s`, the command `i` may write: one field per piece of state, in the words of 10_state.md R21
and 20_memory.md R65. -/
structure WritesOnly (i : Instr) (s t : State) : Prop where
  irqEn : t.irqEn = s.irqEn
  w1c : s.status.KeepsW1C t.status
  hdrValid : t.status.hdrValid ≠ s.status.hdrValid → i = .hdrDecode
  fpMatch : t.status.fpMatch ≠ s.status.fpMatch → i = .fpVerify
  digest : t.digest ≠ s.digest → i.writesDigest
  crcOut : t.crcOut ≠ s.crcOut → i.writesCrcOut
  hdrType : t.hdrType ≠ s.hdrType → i = .hdrEncode ∨ i = .hdrDecode
  hdrFields : (t.hdrClass ≠ s.hdrClass ∨ t.hdrMethod ≠ s.hdrMethod ∨ t.hdrLength ≠ s.hdrLength ∨ t.hdrCookie ≠ s.hdrCookie ∨
    t.txid0 ≠ s.txid0 ∨ t.txid1 ≠ s.txid1 ∨ t.txid2 ≠ s.txid2) → i = .hdrDecode
  xaFields : (t.xaFamily ≠ s.xaFamily ∨ t.xaPort ≠ s.xaPort ∨ t.xaAddr0 ≠ s.xaAddr0 ∨ t.xaAddr1 ≠ s.xaAddr1 ∨
    t.xaAddr2 ≠ s.xaAddr2 ∨ t.xaAddr3 ≠ s.xaAddr3) → i = .xaddrDecode
  xaLen : t.xaLen ≠ s.xaLen → i = .xaddrEncode ∨ i = .xaddrDecode
  ctx1 : t.ctx1 ≠ s.ctx1 → i.usesCtx1
  ctx2 : t.ctx2 ≠ s.ctx2 → i.usesCtx2
  mem : t.mem ≠ s.mem → i.writesMsgbuf
  staysDefined : ∀ a, (Memory.read s.mem a).isSome = true → (Memory.read t.mem a).isSome = true

theorem Status.KeepsW1C.refl (st : Status) : st.KeepsW1C st := ⟨id, id, id⟩

namespace WritesOnly

variable {i : Instr} {s t : State}

theorem refl (i : Instr) (s : State) : WritesOnly i s s where
  irqEn := rfl
  w1c := .refl _
  hdrValid h := absurd rfl h
  fpMatch h := absurd rfl h
  digest h := absurd rfl h
  crcOut h := absurd rfl h
  hdrType h := absurd rfl h
  hdrFields h := by simp at h
  xaFields h := by simp at h
  xaLen h := absurd rfl h
  ctx1 h := absurd rfl h
  ctx2 h := absurd rfl h
  mem h := absurd rfl h
  staysDefined _ := id

/-! Each operation that an EXEC rule is made of stays inside the frame. -/

theorem withDigest (h : WritesOnly i s t) (hi : i.writesDigest) (d : Words8) : WritesOnly i s { t with digest := d } :=
  { h with digest := fun _ => hi }

theorem withCrcOut (h : WritesOnly i s t) (hi : i.writesCrcOut) (w : Word) : WritesOnly i s { t with crcOut := w } :=
  { h with crcOut := fun _ => hi }

theorem withCtx1 (h : WritesOnly i s t) (hi : i.usesCtx1) (c : HashCtx Words5) : WritesOnly i s { t with ctx1 := c } :=
  { h with ctx1 := fun _ => hi }

theorem withCtx2 (h : WritesOnly i s t) (hi : i.usesCtx2) (c : HashCtx Words8) : WritesOnly i s { t with ctx2 := c } :=
  { h with ctx2 := fun _ => hi }

theorem memWrite (h : WritesOnly i s t) (hi : i.writesMsgbuf) (off : Nat) (bs : List Byte) :
    WritesOnly i s (memWrite t off bs) :=
  { h with mem := fun _ => hi, staysDefined := fun a ha => Memory.isSome_read_writeBytes off bs (h.staysDefined a ha) }

theorem storeResult (h : WritesOnly i s t) {store : Bool} (hi : store = true → i.writesMsgbuf) (bs : List Byte) :
    WritesOnly i s (storeResult store bs t) := by
  cases store with
  | false => exact h
  | true => exact h.memWrite (hi rfl) _ bs

/-- A completion sets DONE and never clears ERR or OVR (40_bus_and_control.md R113). -/
theorem complete (h : WritesOnly i s t) (op : Byte) (code : ErrCode) : WritesOnly i s (complete op code t) :=
  { h with w1c := ⟨fun _ => rfl, fun he => by simp [h.w1c.err he], h.w1c.ovr⟩ }

/-- A failure touches HDR_VALID of HDR_DECODE and FP_MATCH of FP_VERIFY alone (60_exceptions.md R165). -/
theorem onFail (i : Instr) (s : State) : WritesOnly i s { s with status := onFail i s.status } := by
  rw [onFail_eq]
  refine { refl i s with hdrValid := fun hv => ?_, fpMatch := fun hm => ?_, w1c := ⟨id, id, id⟩ }
  · by_contra hne
    simp [hne] at hv
  · by_contra hne
    simp [hne] at hm

/-- The effects of every EXEC rule with code OK stay inside the command's frame (40_bus_and_control.md R109). -/
theorem rule_ok (hr : rule i s = .ok t) : WritesOnly i s t := by
  have h := refl i s
  cases i with
  | nop => cases hr; exact h
  | busWrite => cases hr; exact h
  | busRead => cases hr; exact h
  | sha1Init => cases hr; exact h.withCtx1 (.inl rfl) _
  | sha256Init => cases hr; exact h.withCtx2 (.inl rfl) _
  | sha1Update =>
    obtain ⟨-, -, -, m, -, rfl⟩ := sha1UpdateRule_eq_ok.1 hr
    exact h.withCtx1 (.inr (.inl rfl)) _
  | sha256Update =>
    obtain ⟨-, -, -, m, -, rfl⟩ := sha256UpdateRule_eq_ok.1 hr
    exact h.withCtx2 (.inr (.inl rfl)) _
  | sha1Final store =>
    obtain ⟨-, -, rfl⟩ := sha1FinalRule_eq_ok.1 hr
    exact ((h.withDigest (by simp [Instr.writesDigest]) (digestRegs5 _)).withCtx1 (.inr (.inr ⟨_, rfl⟩)) _).storeResult
      (by rintro rfl; simp [Instr.writesMsgbuf]) _
  | sha256Final store =>
    obtain ⟨-, -, rfl⟩ := sha256FinalRule_eq_ok.1 hr
    exact ((h.withDigest (by simp [Instr.writesDigest]) (digestRegs8 _)).withCtx2 (.inr (.inr ⟨_, rfl⟩)) _).storeResult
      (by rintro rfl; simp [Instr.writesMsgbuf]) _
  | sha1 store =>
    obtain ⟨-, -, m, -, rfl⟩ := sha1Rule_eq_ok.1 hr
    exact (h.withDigest (by simp [Instr.writesDigest]) _).storeResult (by rintro rfl; simp [Instr.writesMsgbuf]) _
  | sha256 store =>
    obtain ⟨-, -, m, -, rfl⟩ := sha256Rule_eq_ok.1 hr
    exact (h.withDigest (by simp [Instr.writesDigest]) _).storeResult (by rintro rfl; simp [Instr.writesMsgbuf]) _
  | hmacSha1 store =>
    obtain ⟨-, -, -, m, -, kb, -, rfl⟩ := hmacSha1Rule_eq_ok.1 hr
    exact (h.withDigest (by simp [Instr.writesDigest]) _).storeResult (by rintro rfl; simp [Instr.writesMsgbuf]) _
  | hmacSha256 store =>
    obtain ⟨-, -, -, m, -, kb, -, rfl⟩ := hmacSha256Rule_eq_ok.1 hr
    exact (h.withDigest (by simp [Instr.writesDigest]) _).storeResult (by rintro rfl; simp [Instr.writesMsgbuf]) _
  | crc32 store =>
    obtain ⟨-, -, m, -, rfl⟩ := crc32Rule_eq_ok.1 hr
    exact (h.withCrcOut (.inl ⟨_, .inl rfl⟩) _).storeResult (by rintro rfl; simp [Instr.writesMsgbuf]) _
  | fingerprint store =>
    obtain ⟨-, -, m, -, rfl⟩ := fingerprintRule_eq_ok.1 hr
    exact (h.withCrcOut (.inl ⟨_, .inr rfl⟩) _).storeResult (by rintro rfl; simp [Instr.writesMsgbuf]) _
  | fpVerify =>
    obtain ⟨-, -, m, -, rfl⟩ := fpVerifyRule_eq_ok.1 hr
    exact { h with crcOut := fun _ => .inr rfl, fpMatch := fun _ => rfl, w1c := ⟨id, id, id⟩ }
  | hdrEncode =>
    obtain ⟨-, rfl⟩ := hdrEncodeRule_eq_ok.1 hr
    have htype : WritesOnly .hdrEncode s { s with hdrType := messageType s.hdrClass s.hdrMethod } :=
      { h with hdrType := fun _ => .inl rfl }
    exact htype.memWrite (by simp [Instr.writesMsgbuf]) _ _
  | hdrDecode =>
    obtain ⟨-, -, hdr, -, -, -, -, -, rfl⟩ := hdrDecodeRule_eq_ok.1 hr
    exact { h with
      hdrType := fun _ => .inr rfl, hdrFields := fun _ => rfl, hdrValid := fun _ => rfl, w1c := ⟨id, id, id⟩ }
  | xaddrEncode =>
    obtain ⟨-, -, -, k, -, rfl⟩ := xaddrEncodeRule_eq_ok.1 hr
    have hlen : WritesOnly .xaddrEncode s { s with xaLen := BitVec.ofNat 8 (4 + addressLen s.xaFamily) } :=
      { h with xaLen := fun _ => .inl rfl }
    exact hlen.memWrite (by simp [Instr.writesMsgbuf]) _ _
  | xaddrDecode =>
    obtain ⟨-, -, -, fb, -, -, -, v, -, k, -, rfl⟩ := xaddrDecodeRule_eq_ok.1 hr
    exact { h with xaFields := fun _ => rfl, xaLen := fun _ => .inr rfl }

end WritesOnly

/-- A command answers with the common completion fields over a state inside its frame, whatever its code. -/
theorem exec_command_eq_complete {i : Instr} {op : Byte} {s t : State} (hop : i.opcode = some op) (hx : exec i s = .next t) :
    ∃ code u, t = complete op code u ∧ WritesOnly i s u := by
  rw [exec_eq_finishWith i op s hop] at hx
  rcases finishWith_eq_next.1 hx with ⟨u, hr, rfl⟩ | ⟨code, -, rfl⟩
  · exact ⟨.ok, u, rfl, .rule_ok hr⟩
  · exact ⟨code, _, rfl, .onFail i s⟩

/-- Every command stays inside its frame, whatever its code. -/
theorem exec_command_writesOnly {i : Instr} {op : Byte} {s t : State} (hop : i.opcode = some op) (hx : exec i s = .next t) :
    WritesOnly i s t := by
  obtain ⟨code, u, rfl, hu⟩ := exec_command_eq_complete hop hx
  exact hu.complete op code

/-- Settles O29, by the frame of every command (`exec_command_writesOnly`). -/
theorem onlyNamedCommandsWrite : Obligations.OnlyNamedCommandsWrite := by
  intro i op s t hop hx
  have h : WritesOnly i s t := exec_command_writesOnly hop hx
  exact ⟨h.digest, h.crcOut, h.hdrType, h.hdrFields, h.xaFields, h.xaLen, h.ctx1, h.ctx2, h.mem, h.hdrValid, h.fpMatch⟩

/-! ## A bus access at a register's own address (10_state.md R24) -/

/-- The bus decode is right at every address of the register map; `busTarget_eq_reg` is the converse. -/
theorem busTarget_register (s : State) {row : RegRow} (hrow : row ∈ regTable) :
    busTarget s (row.offset.setWidth 17) = .reg row := by
  have hdecode : ∀ row ∈ regTable, (row.offset.setWidth 17 : BusAddr).extractLsb' 0 2 = 0 ∧
      (row.offset.setWidth 17 : BusAddr).getLsbD 16 = false ∧ (row.offset.setWidth 17 : BusAddr).extractLsb' 12 4 = 0 ∧
      regRowAt ((row.offset.setWidth 17 : BusAddr).extractLsb' 0 12) = some row := by decide
  obtain ⟨h0, h16, h12, hat⟩ := hdecode row hrow
  simp only [busTarget, h0, h16, h12, hat]; rfl

/-- A write that is not dropped, at a register's address (40_bus_and_control.md R99). -/
theorem exec_busWrite_register {s : State} {row : RegRow} (hrow : row ∈ regTable) (d : Word)
    (hnot : s.eng.state = .idle ∨ droppedWhenBusy (.reg row) = false) :
    exec (.busWrite (row.offset.setWidth 17) d) s = .next (respond (writeReg s row.reg d) .ok) := by
  have hkept : (busyFlag s && droppedWhenBusy (.reg row)) = false := by
    rcases hnot with hidle | hdrop
    · simp [busyFlag, hidle]
    · simp [hdrop]
  simp [exec, execBusWrite, busTarget_register s hrow, refusedTarget, hkept, performWrite]

/-- A read at a register's address (40_bus_and_control.md R100). -/
theorem exec_busRead_register (s : State) {row : RegRow} (hrow : row ∈ regTable) :
    exec (.busRead (row.offset.setWidth 17)) s = .next (respond s (.data (readReg s row.reg))) := by
  simp [exec, execBusRead, busTarget_register s hrow]

/-- Every transaction word decodes, so that a 32-bit access is its instruction's meaning (30_encoding.md R84). -/
theorem runWord_bus (w : BusTxn) (s : State) : runWord (.bus w) s = exec (decodeBus w) s := rfl

theorem decodeBus_eq (w : BusTxn) : (∃ a d, decodeBus w = .busWrite a d) ∨ ∃ a, decodeBus w = .busRead a := by
  unfold decodeBus
  split
  · exact .inl ⟨_, _, rfl⟩
  · exact .inr ⟨_, rfl⟩

/-- CTRL stands at 0x008 and STATUS at 0x00C only (10_state.md R24). -/
theorem offset_of_reg_ctrl {row : RegRow} (hrow : row ∈ regTable) (hreg : row.reg = .ctrl) : row.offset = 0x008 := by
  have h : ∀ row ∈ regTable, row.reg = .ctrl → row.offset = 0x008 := by decide
  exact h row hrow hreg

theorem offset_of_reg_status {row : RegRow} (hrow : row ∈ regTable) (hreg : row.reg = .status) : row.offset = 0x00C := by
  have h : ∀ row ∈ regTable, row.reg = .status → row.offset = 0x00C := by decide
  exact h row hrow hreg

/-! ## What a register write leaves -/

/-- No register write changes MSGBUF, a soft reset included (40_bus_and_control.md R105). -/
theorem writeReg_mem (s : State) (r : Reg) (d : Word) : (writeReg s r d).mem = s.mem := by
  cases r
  case ctrl => simp only [writeReg, ctrlWrite]; split <;> rfl
  all_goals rfl

/-- STATUS changes by a write of STATUS or of CTRL only. -/
theorem writeReg_status_of_ne (s : State) {r : Reg} (d : Word) (hs : r ≠ .status) (hc : r ≠ .ctrl) :
    (writeReg s r d).status = s.status := by
  cases r
  case status => exact absurd rfl hs
  case ctrl => exact absurd rfl hc
  all_goals rfl

/-- A write of CTRL without SOFT_RESET changes IRQ_EN only (40_bus_and_control.md R103). -/
theorem ctrlWrite_of_not_reset (s : State) {d : Word} (hd : d.getLsbD 1 = false) :
    ctrlWrite s d = { s with irqEn := d.getLsbD 0 } := by
  rw [ctrlWrite, if_neg (Bool.eq_false_iff.1 hd)]

/-! ## The step and STATUS -/

theorem step_of_engineNext {s : State} (h : s.engineNext) : step s = engineStep (takeMove s) := by
  rcases h with hp | ⟨rest, hp⟩ <;> simp [step, nextMove, hp, runMove]

/-- While BUSY the engine's move is a completion, that of an illegal word among them, and it keeps IRQ_EN (40_bus_and_control.md R109,
R113). -/
theorem engineMove_eq_complete {s t : State} (hb : s.eng.state = .busy) (hn : s.engineNext) (hs : step s = .next t) :
    ∃ op code u, t = complete op code u ∧ u.irqEn = s.irqEn := by
  rw [step_of_engineNext hn] at hs
  rcases engineStep_eq_next hs with ⟨hidle, -⟩ | ⟨-, i, hi, hx⟩ | ⟨-, -, rfl⟩
  · rw [takeMove_eng, hb] at hidle
    cases hidle
  · obtain ⟨code, u, rfl, hu⟩ := exec_command_eq_complete (opcode_of_decode hi) hx
    exact ⟨_, code, u, rfl, hu.irqEn⟩
  · exact ⟨_, _, takeMove s, rfl, rfl⟩

/-- STATUS over a bus access: a soft reset, a write of STATUS, or an access that keeps its W1C bits and HDR_VALID. -/
theorem exec_decodeBus_status {w : BusTxn} {s t : State} (hx : exec (decodeBus w) s = .next t) :
    (∃ d, decodeBus w = .busWrite 0x00008 d ∧ d.getLsbD 1 = true) ∨
    (∃ d, decodeBus w = .busWrite 0x0000C d ∧ t.status = (statusWrite s d).status) ∨
    (s.status.KeepsW1C t.status ∧ t.status.hdrValid = s.status.hdrValid) := by
  rcases decodeBus_eq w with ⟨a, d, hw⟩ | ⟨a, hw⟩
  · rw [hw] at hx
    rcases busWrite_eq_next hx with rfl | ⟨-, -, rfl⟩ | ⟨i, -, -, rfl⟩ | ⟨row, hrow, -, rfl⟩
    · exact .inr (.inr ⟨.refl _, rfl⟩)
    · exact .inr (.inr ⟨⟨id, id, fun _ => rfl⟩, rfl⟩)
    · exact .inr (.inr ⟨.refl _, rfl⟩)
    · obtain ⟨hmem, rfl⟩ := busTarget_eq_reg hrow
      by_cases hst : row.reg = .status
      · rw [offset_of_reg_status hmem hst] at hw
        exact .inr (.inl ⟨d, hw, by rw [respond_status, hst]; rfl⟩)
      by_cases hct : row.reg = .ctrl
      · rw [offset_of_reg_ctrl hmem hct] at hw
        by_cases hd : d.getLsbD 1 = true
        · exact .inl ⟨d, hw, hd⟩
        · have hkept : (respond (writeReg s row.reg d) .ok).status = s.status := by
            rw [respond_status, hct, writeReg, ctrlWrite_of_not_reset s (by simpa using hd)]
          exact .inr (.inr ⟨hkept ▸ .refl _, by rw [hkept]⟩)
      · have hkept : (respond (writeReg s row.reg d) .ok).status = s.status := writeReg_status_of_ne s d hst hct
        exact .inr (.inr ⟨hkept ▸ .refl _, by rw [hkept]⟩)
  · rw [hw] at hx
    obtain ⟨r, rfl⟩ := busRead_eq_next hx
    exact .inr (.inr ⟨.refl _, rfl⟩)

/-- STATUS over a step: a power-on reset, a soft reset, a write of STATUS, or a move that keeps the W1C bits, and that changes
HDR_VALID only as the completion of HDR_DECODE (10_state.md R30-R33). -/
theorem step_status {s t : State} (hs : step s = .next t) :
    (∃ rest, s.host.pending = .powerOn :: rest) ∨
    (∃ rest w d, s.host.pending = .access 32 w :: rest ∧ decodeBus w = .busWrite 0x00008 d ∧ d.getLsbD 1 = true) ∨
    (∃ rest w d, s.host.pending = .access 32 w :: rest ∧ decodeBus w = .busWrite 0x0000C d ∧
      t.status = (statusWrite s d).status) ∨
    (s.status.KeepsW1C t.status ∧ (t.status.hdrValid ≠ s.status.hdrValid →
      s.eng.state = .busy ∧ s.engineNext ∧ decode (.cmd s.eng.cmd) = .ok .hdrDecode)) := by
  rcases step_eq_next hs with ⟨-, -, rfl⟩ | ⟨hn, hb, i, hi, hx⟩ | ⟨-, -, -, rfl⟩ | ⟨size, w, rest, -, -, rfl⟩ |
    ⟨w, rest, hp, hx⟩ | ⟨rest, hp, -⟩
  · exact .inr (.inr (.inr ⟨.refl _, fun h => absurd rfl h⟩))
  · have hframe := exec_command_writesOnly (opcode_of_decode hi) hx
    refine .inr (.inr (.inr ⟨hframe.w1c, fun hv => ⟨hb, hn, ?_⟩⟩))
    rw [hi, hframe.hdrValid hv]
  · have hframe := (WritesOnly.refl .nop (takeMove s)).complete (cmdOpcode s.eng.cmd) .illegalCmd
    exact .inr (.inr (.inr ⟨hframe.w1c, fun h => absurd rfl h⟩))
  · exact .inr (.inr (.inr ⟨.refl _, fun h => absurd rfl h⟩))
  · rcases exec_decodeBus_status hx with ⟨d, hw, hd⟩ | ⟨d, hw, ht⟩ | ⟨hkeep, hv⟩
    · exact .inr (.inl ⟨rest, w, d, hp, hw, hd⟩)
    · exact .inr (.inr (.inl ⟨rest, w, d, hp, hw, ht⟩))
    · exact .inr (.inr (.inr ⟨hkeep, fun h => absurd hv h⟩))
  · exact .inl ⟨rest, hp⟩

end Sys2Proof.Machine
end

section
/-! SUPPORT. The obligations on STATUS, the interrupt line and the defined bytes of MSGBUF (O12, O18, O25, O30, O31). -/

namespace Sys2Proof.Machine

/-! ## MSGBUF over a step (10_state.md R44) -/

theorem exec_decodeBus_staysDefined {w : BusTxn} {s t : State} {a : Nat} (hx : exec (decodeBus w) s = .next t)
    (ha : (Memory.read s.mem a).isSome = true) : (Memory.read t.mem a).isSome = true := by
  rcases decodeBus_eq w with ⟨b, d, hw⟩ | ⟨b, hw⟩ <;> rw [hw] at hx
  · rcases busWrite_eq_next hx with rfl | ⟨-, -, rfl⟩ | ⟨i, -, -, rfl⟩ | ⟨row, -, -, rfl⟩
    · exact ha
    · exact ha
    · exact Memory.isSome_read_writeBytes _ _ ha
    · rwa [respond_mem, writeReg_mem]
  · obtain ⟨r, rfl⟩ := busRead_eq_next hx
    exact ha

/-- Settles O12: of the moves, only a command's completion and a bus write touch MSGBUF, and both write bytes that are defined. -/
theorem definedBytesStayDefined : Obligations.DefinedBytesStayDefined := by
  intro s t a hs hnot ha
  rcases step_eq_next hs with ⟨-, -, rfl⟩ | ⟨-, -, i, hi, hx⟩ | ⟨-, -, -, rfl⟩ | ⟨size, w, rest, -, -, rfl⟩ |
    ⟨w, rest, -, hx⟩ | ⟨rest, hp, -⟩
  · exact ha
  · exact (exec_command_writesOnly (opcode_of_decode hi) hx).staysDefined a ha
  · exact ha
  · exact ha
  · exact exec_decodeBus_staysDefined hx ha
  · exact absurd hp (hnot rest)

/-! ## The STATUS word (10_state.md R28) -/

theorem busyFlag_iff (s : State) : busyFlag s = true ↔ s.eng.state = .busy := by
  simp [busyFlag]

/-- The eight flags of STATUS, bit by bit. -/
theorem statusWord_flags (s : State) :
    (statusWord s).getLsbD 0 = busyFlag s ∧ (statusWord s).getLsbD 1 = s.status.done ∧
    (statusWord s).getLsbD 2 = s.status.err ∧ (statusWord s).getLsbD 3 = s.status.ovr ∧
    (statusWord s).getLsbD 4 = s.status.hdrValid ∧ (statusWord s).getLsbD 5 = s.status.fpMatch ∧
    (statusWord s).getLsbD 6 = s.ctx1.valid ∧ (statusWord s).getLsbD 7 = s.ctx2.valid := by
  simp only [statusWord, BitVec.getLsbD_append, BitVec.getLsbD_ofBool, sha1Active, sha256Active]
  simp

/-- Above its eight flags the STATUS word holds ERRCODE, LAST_OP and zeros. -/
theorem statusWord_getLsbD_add_eight (s : State) (k : Nat) :
    (statusWord s).getLsbD (8 + k) = ((0 : Byte) ++ s.status.lastOp ++ s.status.errcode.toByte).getLsbD k := by
  simp only [statusWord, BitVec.getLsbD_append, BitVec.getLsbD_ofBool]
  grind

/-- The three bytes of STATUS above its flags. -/
theorem statusWord_bytes (s : State) :
    (statusWord s).extractLsb' 8 8 = s.status.errcode.toByte ∧ (statusWord s).extractLsb' 16 8 = s.status.lastOp ∧
    (statusWord s).extractLsb' 24 8 = 0 := by
  have hbit (start k : Nat) (hk : k < 8) : ((statusWord s).extractLsb' (8 + start) 8).getLsbD k =
      ((0 : Byte) ++ s.status.lastOp ++ s.status.errcode.toByte).getLsbD (start + k) := by
    rw [BitVec.getLsbD_extractLsb', Nat.add_assoc, statusWord_getLsbD_add_eight]
    simp [hk]
  refine ⟨BitVec.eq_of_getLsbD_eq fun k hk => ?_, BitVec.eq_of_getLsbD_eq fun k hk => ?_,
    BitVec.eq_of_getLsbD_eq fun k hk => ?_⟩
  · rw [hbit 0 k hk, BitVec.getLsbD_append, if_pos (by omega), Nat.zero_add]
  · rw [hbit 8 k hk, BitVec.getLsbD_append, if_neg (by omega), BitVec.getLsbD_append, if_pos (by omega)]
    simp
  · rw [hbit 16 k hk, BitVec.getLsbD_append, if_neg (by omega), BitVec.getLsbD_append, if_neg (by omega)]
    simp

/-- Settles O18, from the flags and the bytes of the STATUS word; ERRCODE's number is a row of 60_exceptions.md R163 for every code. -/
theorem statusWordFields : Obligations.StatusWordFields := by
  intro s
  obtain ⟨hbusy, hdone, herr, hovr, hvalid, hmatch, h1, h2⟩ := statusWord_flags s
  obtain ⟨hcode, hop, hzero⟩ := statusWord_bytes s
  have hread : exec (.busRead 0x0000C) s = .next (respond s (.data (statusWord s))) :=
    exec_busRead_register s (row := ⟨0x00C, .status, .mixed⟩) (by decide)
  refine ⟨hread, by rw [hbusy, busyFlag_iff], hdone, herr, hovr, hvalid, hmatch, h1, h2, ?_, hop, hzero⟩
  refine ⟨(s.status.errcode, s.status.errcode.toByte), ?_, rfl, hcode⟩
  cases s.status.errcode <;> decide

/-! ## The interrupt line (10_state.md R50) -/

/-- A write of STATUS answers in every state of the engine (40_bus_and_control.md R104). -/
theorem exec_busWrite_status (s : State) (d : Word) :
    exec (.busWrite 0x0000C d) s = .next (respond (statusWrite s d) .ok) :=
  exec_busWrite_register (row := ⟨0x00C, .status, .mixed⟩) (by decide) d (.inr rfl)

/-- Settles O25: the line by definition, lowered by W1C since both of its sources are cleared, raised by every completion since that
sets DONE and keeps IRQ_EN. -/
theorem irqLevel : Obligations.IrqLevel := by
  refine ⟨fun s => by simp [irq], fun s d hdone hovr => ?_, fun s t hb hn hen hs => ?_⟩
  · refine ⟨_, exec_busWrite_status s d, ?_⟩
    rw [irq, respond_status, statusWrite_status, hdone, hovr]
    simp
  · obtain ⟨op, code, u, rfl, hu⟩ := engineMove_eq_complete hb hn hs
    rw [irq, complete_irqEn, complete_status, hu, hen]
    rfl

/-! ## The W1C bits (10_state.md R30-R32) -/

/-- A bit of STATUS that `KeepsW1C` speaks of, and that a STATUS write clears by its data bit `k`, is cleared by nothing else but a
reset. -/
theorem step_clears_w1c {bit : Status → Bool} {k : Nat} (hkeep : ∀ st st', st.KeepsW1C st' → bit st = true → bit st' = true)
    (hwrite : ∀ s d, bit (statusWrite s d).status = (bit s.status && !d.getLsbD k)) {s t : State} (hs : step s = .next t)
    (hset : bit s.status = true) (hclear : bit t.status = false) :
    (∃ rest, s.host.pending = .powerOn :: rest) ∨
    (∃ rest w d, s.host.pending = .access 32 w :: rest ∧
      ((decodeBus w = .busWrite 0x0000C d ∧ d.getLsbD k = true) ∨ (decodeBus w = .busWrite 0x00008 d ∧ d.getLsbD 1 = true))) := by
  rcases step_status hs with hp | ⟨rest, w, d, hp, hw, hd⟩ | ⟨rest, w, d, hp, hw, ht⟩ | ⟨hk, -⟩
  · exact .inl hp
  · exact .inr ⟨rest, w, d, hp, .inr ⟨hw, hd⟩⟩
  · rw [ht, hwrite, hset] at hclear
    exact .inr ⟨rest, w, d, hp, .inl ⟨hw, by simpa using hclear⟩⟩
  · rw [hkeep _ _ hk hset] at hclear
    cases hclear

/-- Settles O30: the completions by `engineMove_eq_complete`, each of the three bits by `step_clears_w1c`, and the issue of a command by
the write of CMD while IDLE. -/
theorem w1CBitsAreSticky : Obligations.W1CBitsAreSticky := by
  refine ⟨fun s t hb hn hs => ?_, fun s t => ?_, fun s t => ?_, fun s t => ?_, fun s d hidle hdone => ?_⟩
  · obtain ⟨op, code, u, rfl, -⟩ := engineMove_eq_complete hb hn hs
    rw [complete_status]
    exact ⟨rfl, fun hcode => by simp [hcode]⟩
  · exact step_clears_w1c (bit := Status.done) (fun _ _ h => h.done) fun _ _ => rfl
  · exact step_clears_w1c (bit := Status.err) (fun _ _ h => h.err) fun _ _ => rfl
  · exact step_clears_w1c (bit := Status.ovr) (fun _ _ h => h.ovr) fun _ _ => rfl
  · have hx : exec (.busWrite 0x00010 d) s = .next (respond (acceptCommand s d) .ok) :=
      exec_busWrite_register (row := ⟨0x010, .cmd, .wo⟩) (by decide) d (.inl hidle)
    exact ⟨_, hx, rfl, hdone⟩

/-! ## HDR_VALID (10_state.md R33) -/

/-- The codes with which HDR_DECODE fails (10_state.md R33, 44_stun_header.md R149, R150). -/
theorem hdrDecodeRule_error_mem {s : State} {code : ErrCode} (h : hdrDecodeRule s = .error code) :
    code ∈ [ErrCode.range, .hdrShort, .hdrLeadingBits, .hdrLenAlign, .hdrLenMismatch, .hdrCookie] := by
  simp only [hdrDecodeRule, requireRange, require_eq_error, withBytes_eq_error, reduceCtorEq, and_false, or_false] at h
  rcases h with ⟨-, rfl⟩ | ⟨-, ⟨-, rfl⟩ | ⟨-, hdr, -, ⟨-, rfl⟩ | ⟨-, ⟨-, rfl⟩ | ⟨-, ⟨-, rfl⟩ | ⟨-, -, rfl⟩⟩⟩⟩⟩ <;> simp

/-- A completion of HDR_DECODE sets HDR_VALID with code OK and clears it with each of its other codes. -/
theorem exec_hdrDecode_status {s t : State} (hx : exec .hdrDecode s = .next t) :
    (t.status.hdrValid = true ∧ t.status.errcode = .ok) ∨
    (t.status.hdrValid = false ∧
      t.status.errcode ∈ [ErrCode.range, .hdrShort, .hdrLeadingBits, .hdrLenAlign, .hdrLenMismatch, .hdrCookie]) := by
  rw [exec_eq_finishWith .hdrDecode 0x0F s rfl] at hx
  rcases finishWith_eq_next.1 hx with ⟨u, hr, rfl⟩ | ⟨code, hr, rfl⟩
  · obtain ⟨-, -, hdr, -, -, -, -, -, rfl⟩ := hdrDecodeRule_eq_ok.1 hr
    exact .inl ⟨rfl, rfl⟩
  · exact .inr ⟨rfl, hdrDecodeRule_error_mem hr⟩

/-- Settles O31: the outcome by `exec_hdrDecode_status`, the frame by `step_status`, where a write of STATUS keeps HDR_VALID. -/
theorem hdrValidIsLastDecodeOutcome : Obligations.HdrValidIsLastDecodeOutcome := by
  refine ⟨fun s t hx => ?_, fun s t hs hv => ?_⟩
  · rcases exec_hdrDecode_status hx with ⟨hvalid, hcode⟩ | ⟨hvalid, hcode⟩
    · simp [hvalid, hcode]
    · have hne : t.status.errcode ≠ .ok := fun h => by simp [h] at hcode
      simp [hvalid, hne, hcode]
  · rcases step_status hs with hp | ⟨rest, w, d, hp, hw, hd⟩ | ⟨rest, w, d, -, -, ht⟩ | ⟨-, hdecode⟩
    · exact .inr (.inl hp)
    · exact .inr (.inr ⟨rest, w, d, hp, hw, hd⟩)
    · exact absurd (by rw [ht]; rfl) hv
    · exact .inl (hdecode hv)

end Sys2Proof.Machine
end

section
/-! SUPPORT. The command word of an IDLE engine is read by no step (O8): two states that differ in it alone answer every move alike. -/

namespace Sys2Proof.Machine

/-- `s` with another word in eng.cmd. -/
def State.withCmd (s : State) (c : Word) : State := { s with eng := { s.eng with cmd := c } }

/-- `t'` is `t` but for eng.cmd, and the same there too while BUSY (10_state.md R49, 93_implementation_defined.md I-4). -/
structure SameButIdleCmd (t t' : State) : Prop where
  rest : t'.withCmd t.eng.cmd = t
  busy : t.eng.state = .busy → t'.eng.cmd = t.eng.cmd

/-- Two outcomes alike: next states the same but for the command word of an IDLE engine, or the same fault. -/
structure OutcomesAlike (o o' : Host.Outcome State Fault Refusal) : Prop where
  next : ∀ t, o = .next t → ∃ t', o' = .next t' ∧ SameButIdleCmd t t'
  fault : ∀ f, o = .fault f → o' = .fault f

theorem SameButIdleCmd.refl (s : State) : SameButIdleCmd s s := ⟨rfl, fun _ => rfl⟩

theorem SameButIdleCmd.of_eq_withCmd {t t' : State} (h : t.eng.state = .idle) (c : Word) (ht : t' = t.withCmd c) :
    SameButIdleCmd t t' := by
  subst ht
  exact ⟨rfl, fun hb => by rw [h] at hb; cases hb⟩

/-- The answer that the host gets does not touch the engine. -/
theorem SameButIdleCmd.respond {t t' : State} (h : SameButIdleCmd t t') (r : BusResponse) :
    SameButIdleCmd (respond t r) (respond t' r) :=
  ⟨congrArg (Machine.respond · r) h.rest, h.busy⟩

theorem OutcomesAlike.of_next {t t' : State} (h : SameButIdleCmd t t') : OutcomesAlike (.next t) (.next t') :=
  ⟨fun _ ht => by cases ht; exact ⟨t', rfl, h⟩, fun _ hf => by cases hf⟩

theorem OutcomesAlike.of_fault (f : Fault) : OutcomesAlike (.fault f) (.fault f) :=
  ⟨fun _ ht => (by cases ht), fun _ hf => hf⟩

/-! ## What does not read eng.cmd, whatever the engine's state -/

section Reads

variable (s : State) (c : Word)

@[simp] theorem withCmd_busTarget (a : BusAddr) : busTarget (s.withCmd c) a = busTarget s a := rfl

@[simp] theorem withCmd_busyFlag : busyFlag (s.withCmd c) = busyFlag s := rfl

@[simp] theorem withCmd_memRead (r : MsgRange) : memRead (s.withCmd c) r = memRead s r := rfl

/-- No register shows eng.cmd: CMD is write-only (10_state.md R24). -/
@[simp] theorem withCmd_readReg (r : Reg) : readReg (s.withCmd c) r = readReg s r := by
  cases r <;> rfl

end Reads

/-! ## The host's accesses while IDLE -/

section Idle

variable {s : State} (hidle : s.eng.state = .idle) (c : Word)

include hidle

/-- A write to CMD and a soft reset overwrite eng.cmd; every other register write leaves it as it is. -/
theorem sameButIdleCmd_writeReg (r : Reg) (d : Word) : SameButIdleCmd (writeReg s r d) (writeReg (s.withCmd c) r d) := by
  cases r
  case cmd => exact .refl _
  case ctrl =>
    by_cases hd : d.getLsbD 1 = true
    · simp only [writeReg, ctrlWrite, if_pos hd]
      exact .refl _
    · simp only [writeReg, ctrlWrite, if_neg hd]
      exact .of_eq_withCmd hidle c rfl
  all_goals exact .of_eq_withCmd hidle c rfl

theorem sameButIdleCmd_performWrite (t : BusTarget) (d : Word) :
    SameButIdleCmd (performWrite s t d) (performWrite (s.withCmd c) t d) := by
  cases t with
  | reg row => exact sameButIdleCmd_writeReg hidle c row.reg d
  | msgWord i => exact .of_eq_withCmd hidle c rfl
  | misaligned => exact .of_eq_withCmd hidle c rfl
  | unmapped => exact .of_eq_withCmd hidle c rfl

theorem outcomesAlike_busWrite (a : BusAddr) (d : Word) :
    OutcomesAlike (exec (.busWrite a d) s) (exec (.busWrite a d) (s.withCmd c)) := by
  have hfree : busyFlag s = false := by simp [busyFlag, hidle]
  simp only [exec, execBusWrite, withCmd_busTarget, withCmd_busyFlag, hfree, Bool.false_and, Bool.false_eq_true, if_false]
  split
  · exact .of_next ((SameButIdleCmd.of_eq_withCmd hidle c rfl).respond _)
  · exact .of_next ((sameButIdleCmd_performWrite hidle c _ d).respond _)

theorem outcomesAlike_busRead (a : BusAddr) : OutcomesAlike (exec (.busRead a) s) (exec (.busRead a) (s.withCmd c)) := by
  have hnext (r : BusResponse) : OutcomesAlike (.next (respond s r)) (.next (respond (s.withCmd c) r)) :=
    .of_next ((SameButIdleCmd.of_eq_withCmd hidle c rfl).respond r)
  simp only [exec, execBusRead, withCmd_busTarget, withCmd_memRead, withCmd_readReg]
  split
  · split
    · exact hnext _
    · exact .of_fault _
  all_goals exact hnext _

theorem outcomesAlike_hostAccess (size : Nat) (w : BusTxn) :
    OutcomesAlike (hostAccess size w s) (hostAccess size w (s.withCmd c)) := by
  unfold hostAccess
  split
  · rw [runWord_bus, runWord_bus]
    rcases decodeBus_eq w with ⟨a, d, hw⟩ | ⟨a, hw⟩ <;> rw [hw]
    · exact outcomesAlike_busWrite hidle c a d
    · exact outcomesAlike_busRead hidle c a
  · exact .of_next ((SameButIdleCmd.of_eq_withCmd hidle c rfl).respond _)

/-! ## The step -/

theorem outcomesAlike_runMove (m : Move) : OutcomesAlike (runMove m s) (runMove m (s.withCmd c)) := by
  cases m with
  | access size w => exact outcomesAlike_hostAccess hidle c size w
  | powerOn => exact .of_next (.refl _)
  | engineTurn =>
    have hturn (u : State) (hu : u.eng.state = .idle) : runMove .engineTurn u = .next u := by
      simp only [runMove, engineStep, hu]
    rw [hturn s hidle, hturn (s.withCmd c) hidle]
    exact .of_next (.of_eq_withCmd hidle c rfl)

end Idle

/-- Settles O8: the next move does not depend on eng.cmd, and every move of an IDLE state is alike over it
(`outcomesAlike_runMove`). -/
theorem idleCommandWordIsUnobservable : Obligations.IdleCommandWordIsUnobservable := by
  intro s c hidle
  have halike : OutcomesAlike (step s) (step (s.withCmd c)) := outcomesAlike_runMove (s := takeMove s) hidle c (nextMove s)
  refine ⟨fun t ht => ?_, halike.fault⟩
  obtain ⟨t', ht', hrest, hbusy⟩ := halike.next t ht
  exact ⟨t', ht', hrest, hbusy⟩

end Sys2Proof.Machine
end

section
/-! SUPPORT. The obligations on the host's view of memory (O15, O16, O23, O24, O26): which addresses are mapped, what an access to any
other one answers, the lanes of a MSGBUF word, what a read answers, and what an access leaves while BUSY. -/

namespace Sys2Proof.Machine

/-! ## Mapped addresses (20_memory.md R69) -/

/-- What does not answer BUSERR is a multiple of 4, and a register of 10_state.md R24 or inside the MSGBUF window. -/
theorem mapped_of_not_refused {s : State} {a : BusAddr} (h : refusedTarget (busTarget s a) = false) :
    a.toNat % 4 = 0 ∧
      (a.toNat ∈ registerAddresses ∨ (0x10000 ≤ a.toNat ∧ a.toNat < 0x10000 + s.cfg.msgbufSize)) := by
  cases ht : busTarget s a with
  | msgWord i =>
    obtain ⟨ha, hi⟩ := busTarget_eq_msgWord ht
    exact ⟨by omega, .inr (by omega)⟩
  | reg row =>
    obtain ⟨hrow, rfl⟩ := busTarget_eq_reg ht
    have htable : ∀ row ∈ regTable, (row.offset.setWidth 17 : BusAddr).toNat % 4 = 0 ∧
        (row.offset.setWidth 17 : BusAddr).toNat ∈ registerAddresses := by decide
    exact ⟨(htable row hrow).1, .inl (htable row hrow).2⟩
  | misaligned | unmapped => rw [ht] at h; cases h

theorem registerAddresses_lt {n : Nat} (h : n ∈ registerAddresses) : n < 0x10000 := by
  have hall : ∀ n ∈ registerAddresses, n < 0x10000 := by decide
  exact hall n h

/-- The address of MSGBUF word i decodes to it; `busTarget_eq_msgWord` is the converse. -/
theorem busTarget_msgWord {s : State} {a : BusAddr} {i : Nat} (ha : a.toNat = 0x10000 + 4 * i) (hi : 4 * i < s.cfg.msgbufSize) :
    busTarget s a = .msgWord i := by
  have hlt := a.isLt
  have h0 : a.extractLsb' 0 2 = 0 := by
    apply BitVec.eq_of_toNat_eq
    simp only [BitVec.extractLsb'_toNat, Nat.shiftRight_eq_div_pow, BitVec.ofNat_eq_ofNat, BitVec.toNat_ofNat]
    omega
  have h16 : a.getLsbD 16 = true := (getLsbD_16_iff a).2 (by omega)
  have hword : (a.extractLsb' 2 14).toNat = i := by
    simp only [BitVec.extractLsb'_toNat, Nat.shiftRight_eq_div_pow]
    omega
  simp only [busTarget, h0, h16, hword, hi, ne_eq, not_true_eq_false, if_false, if_true]

/-! ## Refused accesses (20_memory.md R63, R71) -/

/-- A refused access is answered BUSERR with no effect, in both directions. -/
theorem exec_bus_refused {s : State} {a : BusAddr} (h : refusedTarget (busTarget s a) = true) (d : Word) :
    exec (.busWrite a d) s = .next (respond s .busErr) ∧ exec (.busRead a) s = .next (respond s .busErr) := by
  refine ⟨by simp [exec, execBusWrite, h], ?_⟩
  cases ht : busTarget s a with
  | misaligned | unmapped => simp [exec, execBusRead, ht]
  | msgWord _ | reg _ => rw [ht] at h; cases h

theorem step_of_access {s : State} {size : Nat} {w : BusTxn} {rest : List Move} (hp : s.host.pending = .access size w :: rest) :
    step s = hostAccess size w (takeMove s) := by
  simp [step, nextMove, hp, runMove]

/-- Settles O15: a host access of another size is refused before it decodes, and no mapped address is misaligned
(`mapped_of_not_refused`). -/
theorem narrowOrMisalignedAccessIsBusError : Obligations.NarrowOrMisalignedAccessIsBusError := by
  refine ⟨fun s size w rest hsize hp => ?_, fun s a d ha => exec_bus_refused ?_ d⟩
  · rw [step_of_access hp, hostAccess, if_neg hsize]
  · by_contra href
    exact ha (mapped_of_not_refused (Bool.eq_false_iff.2 href)).1

/-- Settles O16: the mapped addresses are the registers of R24 and the MSGBUF window (`mapped_of_not_refused`). -/
theorem unmappedAccessIsBusError : Obligations.UnmappedAccessIsBusError := by
  intro s a d _ hreg hwindow
  refine exec_bus_refused ?_ d
  by_contra href
  obtain ⟨-, hmapped | ⟨hlo, hhi⟩⟩ := mapped_of_not_refused (Bool.eq_false_iff.2 href)
  · exact hreg (registerAddresses_lt hmapped) hmapped
  · have := hwindow hlo
    omega

/-! ## What a bus read answers (40_bus_and_control.md R100) -/

/-- The answer of a read of `a`; none where it is the model fault. -/
def busAnswer (s : State) (a : BusAddr) : Option BusResponse :=
  match busTarget s a with
  | .msgWord i => (memRead s ⟨4 * i, 4⟩).map fun bs => .data (be32 bs)
  | .reg row => some (.data (readReg s row.reg))
  | .misaligned => some .busErr
  | .unmapped => some .busErr

theorem busAnswer_msgWord {s : State} {a : BusAddr} {i : Nat} (h : busTarget s a = .msgWord i) :
    busAnswer s a = (memRead s ⟨4 * i, 4⟩).map fun bs => .data (be32 bs) := by
  simp only [busAnswer, h]

/-- A read puts its answer in the host's record and does nothing else (20_memory.md R67). -/
theorem exec_busRead_of_some {s : State} {a : BusAddr} {r : BusResponse} (h : busAnswer s a = some r) :
    exec (.busRead a) s = .next (respond s r) := by
  simp only [exec, execBusRead]
  unfold busAnswer at h
  cases ht : busTarget s a with
  | msgWord i =>
    simp only [ht, Option.map_eq_some_iff] at h
    obtain ⟨bs, hbs, rfl⟩ := h
    simp only [hbs]
  | reg _ | misaligned | unmapped =>
    simp only [ht, Option.some.injEq] at h
    simp only [h]

/-- A read with no answer is the model fault (20_memory.md R73). -/
theorem exec_busRead_of_none {s : State} {a : BusAddr} (h : busAnswer s a = none) :
    exec (.busRead a) s = .fault .undefinedByte := by
  simp only [exec, execBusRead]
  unfold busAnswer at h
  cases ht : busTarget s a with
  | msgWord i =>
    simp only [ht, Option.map_eq_none_iff] at h
    simp only [h]
  | reg _ | misaligned | unmapped => simp [ht] at h

theorem respond_injective (s : State) : Function.Injective (respond s) := by
  intro r r' h
  have hrecord : r :: s.host.responses = r' :: s.host.responses := congrArg (fun t => t.host.responses) h
  exact (List.cons.inj hrecord).1

/-- Two reads at one state that answer alike are one answer, so that `busAnswer` is all that a read shows. -/
theorem exec_busRead_eq_respond {s : State} {a : BusAddr} {r : BusResponse} :
    exec (.busRead a) s = .next (respond s r) ↔ busAnswer s a = some r := by
  refine ⟨fun h => ?_, exec_busRead_of_some⟩
  cases ha : busAnswer s a with
  | none => rw [exec_busRead_of_none ha] at h; cases h
  | some q =>
    rw [exec_busRead_of_some ha, Host.Outcome.next.injEq] at h
    rw [respond_injective s h]

/-- No register shows the host's record of answers. -/
@[simp] theorem respond_readReg (s : State) (r : BusResponse) (x : Reg) : readReg (respond s r) x = readReg s x := by
  cases x <;> rfl

@[simp] theorem respond_busTarget (s : State) (r : BusResponse) (a : BusAddr) : busTarget (respond s r) a = busTarget s a := rfl

@[simp] theorem respond_memRead (s : State) (r : BusResponse) (x : MsgRange) : memRead (respond s r) x = memRead s x := rfl

@[simp] theorem respond_busAnswer (s : State) (r : BusResponse) (a : BusAddr) : busAnswer (respond s r) a = busAnswer s a := by
  simp only [busAnswer, respond_busTarget, respond_memRead, respond_readReg]

/-- Settles O24: a read changes the host's record only, and no answer depends on that record (`respond_busAnswer`). -/
theorem busReadsAreIdempotent : Obligations.BusReadsAreIdempotent := by
  intro s t b hb
  obtain ⟨q, rfl⟩ := busRead_eq_next hb
  refine ⟨⟨q, rfl⟩, fun a r hr => ?_⟩
  rw [exec_busRead_eq_respond] at hr ⊢
  rw [respond_busAnswer, hr]

/-! ## The lanes of a MSGBUF word (20_memory.md R58) -/

/-- A write to a MSGBUF word while IDLE (40_bus_and_control.md R99). -/
theorem exec_busWrite_msgWord {s : State} {a : BusAddr} {i : Nat} (ht : busTarget s a = .msgWord i) (v : Word)
    (hidle : s.eng.state = .idle) :
    exec (.busWrite a v) s = .next (respond (memWrite s (4 * i) (bytes32 v)) .ok) := by
  have hfree : busyFlag s = false := by simp [busyFlag, hidle]
  simp [exec, execBusWrite, ht, refusedTarget, hfree, performWrite]

/-- Settles O23: both directions at the word's decoded target, the write's frame by `Memory.afterStore_writeBytes`. -/
theorem msgbufWordLanes : Obligations.MsgbufWordLanes := by
  intro s i a ha hi
  have ht : busTarget s a = .msgWord i := busTarget_msgWord ha hi
  refine ⟨fun b0 b1 b2 b3 hbytes => exec_busRead_of_some ?_, fun v hidle => ?_⟩
  · have hread : memRead s ⟨4 * i, 4⟩ = some [b0, b1, b2, b3] := memRead_eq_some.2 ⟨rfl, hbytes⟩
    rw [busAnswer_msgWord ht, hread]
    rfl
  · exact ⟨_, exec_busWrite_msgWord ht v hidle, rfl, Memory.afterStore_writeBytes _ _ _⟩

/-! ## An access while BUSY (20_memory.md R75, R76) -/

/-- `t` is `s` but for IRQ_EN, the W1C bits of STATUS and the host's record. -/
def InputsKept (s t : State) : Prop :=
  t = { s with
    irqEn := t.irqEn
    status := { s.status with done := t.status.done, err := t.status.err, ovr := t.status.ovr }
    host := t.host }

/-- A write to a read-only register is ignored (10_state.md R23). -/
theorem writeReg_readOnly {row : RegRow} (hrow : row ∈ regTable) (hro : row.access = .ro) (s : State) (d : Word) :
    writeReg s row.reg d = s := by
  have hregs : ∀ row ∈ regTable, row.access = .ro →
      row.reg ∈ [Reg.id, .caps, .digest0, .digest1, .digest2, .digest3, .digest4, .digest5, .digest6, .digest7, .crcOut, .hdrType,
        .hdrCookie, .xaLen] := by decide
  have hmem := hregs row hrow hro
  generalize row.reg = r at hmem ⊢
  simp only [List.mem_cons, List.not_mem_nil, or_false] at hmem
  rcases hmem with rfl | rfl | rfl | rfl | rfl | rfl | rfl | rfl | rfl | rfl | rfl | rfl | rfl | rfl <;> rfl

/-- A register whose writes are not dropped while BUSY is CTRL, STATUS or read-only (40_bus_and_control.md R102). -/
theorem reg_of_not_dropped {row : RegRow} (hrow : row ∈ regTable) (h : droppedWhenBusy (.reg row) = false) :
    row.reg = .ctrl ∨ row.reg = .status ∨ row.access = .ro := by
  have htable : ∀ row ∈ regTable, droppedWhenBusy (.reg row) = false →
      row.reg = .ctrl ∨ row.reg = .status ∨ row.access = .ro := by decide
  exact htable row hrow h

/-- A register write that is not dropped while BUSY keeps every input, unless it is a soft reset. -/
theorem writeReg_inputsKept {row : RegRow} (hrow : row ∈ regTable) (h : droppedWhenBusy (.reg row) = false) (s : State) (d : Word) :
    InputsKept s (writeReg s row.reg d) ∨
      (row.offset = 0x008 ∧ d.getLsbD 1 = true ∧ (writeReg s row.reg d).eng.state = .idle) := by
  rcases reg_of_not_dropped hrow h with hreg | hreg | hro
  · by_cases hd : d.getLsbD 1 = true
    · refine .inr ⟨offset_of_reg_ctrl hrow hreg, hd, ?_⟩
      rw [hreg, writeReg, ctrlWrite, if_pos hd, softReset_eng]
    · rw [hreg, writeReg, ctrlWrite_of_not_reset s (Bool.eq_false_iff.2 hd)]
      exact .inl rfl
  · rw [hreg]
    exact .inl rfl
  · rw [writeReg_readOnly hrow hro]
    exact .inl rfl

theorem InputsKept.respond {s t : State} (h : InputsKept s t) (r : BusResponse) : InputsKept s (respond t r) :=
  congrArg (Machine.respond · r) h

/-- A 32-bit access while BUSY keeps every input, unless it is a soft reset. -/
theorem exec_decodeBus_inputsKept {w : BusTxn} {s t : State} (hb : s.eng.state = .busy) (hx : exec (decodeBus w) s = .next t) :
    InputsKept s t ∨ (t.eng.state = .idle ∧ ∃ d : Word, decodeBus w = .busWrite 0x00008 d ∧ d.getLsbD 1 = true) := by
  rcases decodeBus_eq w with ⟨a, d, hw⟩ | ⟨a, hw⟩ <;> rw [hw] at hx ⊢
  · rcases busWrite_eq_next hx with rfl | ⟨-, -, rfl⟩ | ⟨i, -, hidle, -⟩ | ⟨row, htarget, hnot, rfl⟩
    · exact .inl rfl
    · exact .inl rfl
    · rw [hb] at hidle
      cases hidle
    · obtain ⟨hrow, rfl⟩ := busTarget_eq_reg htarget
      have hdrop : droppedWhenBusy (.reg row) = false := hnot.resolve_left (by simp [hb])
      rcases writeReg_inputsKept hrow hdrop s d with hkept | ⟨hoff, hd, hidle⟩
      · exact .inl (hkept.respond .ok)
      · exact .inr ⟨hidle, d, by rw [hoff]; rfl, hd⟩
  · obtain ⟨r, rfl⟩ := busRead_eq_next hx
    exact .inl rfl

/-- Settles O26: an access of another size than 32 bits changes the record only; one of 32 bits, by `exec_decodeBus_inputsKept`. -/
theorem inputsAreFrozenWhileBusy : Obligations.InputsAreFrozenWhileBusy := by
  intro s t size w rest hb hp hs
  rw [step_of_access hp, hostAccess] at hs
  split at hs
  · rw [runWord_bus] at hs
    exact exec_decodeBus_inputsKept (s := takeMove s) hb hs
  · cases hs
    exact .inl rfl

end Sys2Proof.Machine
end

section
/-! SUPPORT. The obligations on a command's operand ranges (O33, O34): a check that stops a rule, or a read of an undefined byte, is what the
command answers. -/

namespace Sys2Proof.Machine

/-! ## From the rule to the command (40_bus_and_control.md R109, R113) -/

theorem exec_of_rule_error {i : Instr} {op : Byte} {s : State} {code : ErrCode} (hop : i.opcode = some op) (hcode : code ≠ .ok)
    (hr : rule i s = .error code) : exec i s = .next (State.failed op code { s with status := onFail i s.status }) := by
  rw [exec_eq_finishWith i op s hop, hr, finishWith, complete_failed op _ hcode]

theorem exec_of_rule_fault {i : Instr} {op : Byte} {s : State} {f : Fault} (hop : i.opcode = some op) (hr : rule i s = .fault f) :
    exec i s = .fault f := by
  rw [exec_eq_finishWith i op s hop, finishWith_eq_fault, hr]

theorem onFail_of_ne {i : Instr} (hd : i ≠ .hdrDecode) (hv : i ≠ .fpVerify) (st : Status) : onFail i st = st := by
  rw [onFail_eq, if_neg hd, if_neg hv]

/-- A range error of a command with no status effect of its own. -/
theorem exec_of_rule_range {i : Instr} {op : Byte} {s : State} (hop : i.opcode = some op) (hd : i ≠ .hdrDecode) (hv : i ≠ .fpVerify)
    (hr : rule i s = .error .range) : exec i s = .next (s.failed op .range) := by
  have hx := exec_of_rule_error hop (by decide) hr
  rwa [onFail_of_ne hd hv] at hx

/-! ## Range errors (20_memory.md R72) -/

/-- The commands whose rule begins with the check of (SRC_OFF, SRC_LEN). -/
def checksSource (i : Instr) : Bool :=
  match i with
  | .sha1Update | .sha1 _ | .sha256Update | .sha256 _ | .hmacSha1 _ | .hmacSha256 _ | .crc32 _ | .fingerprint _ | .fpVerify
  | .hdrDecode | .xaddrDecode => true
  | _ => false

theorem rule_eq_requireRange_source {i : Instr} (h : checksSource i = true) (s : State) :
    ∃ k, rule i s = requireRange s (srcRange s) k := by
  cases i <;> simp only [checksSource, Bool.false_eq_true] at h
  all_goals exact ⟨_, rfl⟩

theorem rule_source_range {i : Instr} {s : State} (h : checksSource i = true)
    (hsrc : s.cfg.msgbufSize < s.srcOff.toNat + s.srcLen.toNat) : rule i s = .error .range := by
  obtain ⟨k, hk⟩ := rule_eq_requireRange_source h s
  rw [hk, requireRange_stop k hsrc]

/-- The first clause of R72's errors: the source range. -/
theorem exec_source_range {s : State} (hsrc : s.cfg.msgbufSize < s.srcOff.toNat + s.srcLen.toNat) {i : Instr} {op : Byte}
    (h : checksSource i = true ∧ i.opcode = some op ∧ i ≠ .hdrDecode ∧ i ≠ .fpVerify) : exec i s = .next (s.failed op .range) := by
  obtain ⟨hi, hop, hd, hv⟩ := h
  exact exec_of_rule_range hop hd hv (rule_source_range hi hsrc)

section Ranges

variable {s : State} (hsrc : s.srcOff.toNat + s.srcLen.toNat ≤ s.cfg.msgbufSize)

include hsrc

theorem exec_hmac_key_range (hkey : s.cfg.msgbufSize < s.keyOff.toNat + s.keyLen.toNat) (store : Bool) :
    exec (.hmacSha1 store) s = .next (s.failed 0x09 .range) ∧ exec (.hmacSha256 store) s = .next (s.failed 0x0A .range) := by
  have h1 : rule (.hmacSha1 store) s = .error .range := (requireRange_pass _ hsrc).trans (requireRange_stop _ hkey)
  have h2 : rule (.hmacSha256 store) s = .error .range := (requireRange_pass _ hsrc).trans (requireRange_stop _ hkey)
  exact ⟨exec_of_rule_range (by cases store <;> rfl) (by simp) (by simp) h1,
    exec_of_rule_range (by cases store <;> rfl) (by simp) (by simp) h2⟩

theorem exec_sha1_store_range (hdst : s.cfg.msgbufSize < s.dstOff.toNat + 20) : exec (.sha1 true) s = .next (s.failed 0x04 .range) :=
  exec_of_rule_range rfl (by simp) (by simp) ((requireRange_pass _ hsrc).trans (requireStore_stop _ hdst))

theorem exec_sha256_store_range (hdst : s.cfg.msgbufSize < s.dstOff.toNat + 32) :
    exec (.sha256 true) s = .next (s.failed 0x08 .range) :=
  exec_of_rule_range rfl (by simp) (by simp) ((requireRange_pass _ hsrc).trans (requireStore_stop _ hdst))

theorem exec_hmacSha1_store_range (hkey : s.keyOff.toNat + s.keyLen.toNat ≤ s.cfg.msgbufSize)
    (hdst : s.cfg.msgbufSize < s.dstOff.toNat + 20) : exec (.hmacSha1 true) s = .next (s.failed 0x09 .range) :=
  exec_of_rule_range rfl (by simp) (by simp)
    ((requireRange_pass _ hsrc).trans ((requireRange_pass _ hkey).trans (requireStore_stop _ hdst)))

theorem exec_hmacSha256_store_range (hkey : s.keyOff.toNat + s.keyLen.toNat ≤ s.cfg.msgbufSize)
    (hdst : s.cfg.msgbufSize < s.dstOff.toNat + 32) : exec (.hmacSha256 true) s = .next (s.failed 0x0A .range) :=
  exec_of_rule_range rfl (by simp) (by simp)
    ((requireRange_pass _ hsrc).trans ((requireRange_pass _ hkey).trans (requireStore_stop _ hdst)))

theorem exec_crc_store_range (hdst : s.cfg.msgbufSize < s.dstOff.toNat + 4) :
    exec (.crc32 true) s = .next (s.failed 0x0B .range) ∧ exec (.fingerprint true) s = .next (s.failed 0x0C .range) :=
  ⟨exec_of_rule_range rfl (by simp) (by simp) ((requireRange_pass _ hsrc).trans (requireStore_stop _ hdst)),
    exec_of_rule_range rfl (by simp) (by simp) ((requireRange_pass _ hsrc).trans (requireStore_stop _ hdst))⟩

end Ranges

/-- Settles O33: the checks in R72's order, each after those before it have passed. -/
theorem rangeErrorsStopCommands : Obligations.RangeErrorsStopCommands := by
  refine fun s => ⟨fun hsrc => ⟨fun p hp => exec_source_range hsrc ?_, ?_, ?_⟩, exec_hmac_key_range, fun hsrc => ⟨fun hdst => ?_,
    fun hdst => ?_, exec_crc_store_range hsrc⟩⟩
  · revert p
    decide
  · exact exec_of_rule_error rfl (by decide) (rule_source_range rfl hsrc)
  · exact exec_of_rule_error rfl (by decide) (rule_source_range rfl hsrc)
  · exact ⟨exec_sha1_store_range hsrc hdst, fun hkey => exec_hmacSha1_store_range hsrc hkey hdst⟩
  · exact ⟨exec_sha256_store_range hsrc hdst, fun hkey => exec_hmacSha256_store_range hsrc hkey hdst⟩

/-! ## Undefined bytes (20_memory.md R73) -/

/-- A read of an undefined byte faults, whatever follows. -/
theorem withBytes_fault_of_none {o : Option (List Byte)} {k : List Byte → ExecResult} (h : o = none) :
    withBytes o k = .fault .undefinedByte :=
  withBytes_eq_fault.2 (.inl h)

/-- Two reads in a row fault where either of them does. -/
theorem withBytes_withBytes_fault {o o' : Option (List Byte)} {k : List Byte → List Byte → ExecResult} (h : o = none ∨ o' = none) :
    (withBytes o fun bs => withBytes o' (k bs)) = .fault .undefinedByte := by
  cases o with
  | none => rfl
  | some bs =>
    rw [withBytes_some]
    exact withBytes_fault_of_none (h.resolve_left (by simp))

section Source

variable {s : State} (hsrc : s.srcOff.toNat + s.srcLen.toNat ≤ s.cfg.msgbufSize) (hm : memRead s (srcRange s) = none)

include hsrc hm

theorem exec_sha1Update_fault (hvalid : s.ctx1.valid = true) (hn : s.ctx1.n + s.srcLen.toNat ≤ maxStreamBytes) :
    exec .sha1Update s = .fault .undefinedByte :=
  exec_of_rule_fault rfl (requireRange_eq_fault.2 ⟨hsrc, require_eq_fault.2 ⟨hvalid,
    require_eq_fault.2 ⟨decide_eq_true hn, withBytes_fault_of_none hm⟩⟩⟩)

theorem exec_sha256Update_fault (hvalid : s.ctx2.valid = true) (hn : s.ctx2.n + s.srcLen.toNat ≤ maxStreamBytes) :
    exec .sha256Update s = .fault .undefinedByte :=
  exec_of_rule_fault rfl (requireRange_eq_fault.2 ⟨hsrc, require_eq_fault.2 ⟨hvalid,
    require_eq_fault.2 ⟨decide_eq_true hn, withBytes_fault_of_none hm⟩⟩⟩)

theorem exec_fpVerify_fault (h8 : 8 ≤ s.srcLen.toNat) : exec .fpVerify s = .fault .undefinedByte :=
  exec_of_rule_fault rfl (requireRange_eq_fault.2 ⟨hsrc, require_eq_fault.2 ⟨decide_eq_true h8, withBytes_fault_of_none hm⟩⟩)

/-- The rules that check the source and the STORE destination, and then read the source. -/
theorem source_store_fault {store : Bool} {n : Nat} (hdst : store = true → s.dstOff.toNat + n ≤ s.cfg.msgbufSize)
    (k : List Byte → ExecResult) :
    (requireRange s (srcRange s) <| requireStore store s n <| withBytes (memRead s (srcRange s)) k) = .fault .undefinedByte :=
  requireRange_eq_fault.2 ⟨hsrc, requireStore_eq_fault.2 ⟨hdst, withBytes_fault_of_none hm⟩⟩

theorem exec_sha1_fault {store : Bool} (hdst : store = true → s.dstOff.toNat + 20 ≤ s.cfg.msgbufSize) :
    exec (.sha1 store) s = .fault .undefinedByte :=
  exec_of_rule_fault (op := 0x04) (by cases store <;> rfl) (source_store_fault hsrc hm hdst _)

theorem exec_sha256_fault {store : Bool} (hdst : store = true → s.dstOff.toNat + 32 ≤ s.cfg.msgbufSize) :
    exec (.sha256 store) s = .fault .undefinedByte :=
  exec_of_rule_fault (op := 0x08) (by cases store <;> rfl) (source_store_fault hsrc hm hdst _)

theorem exec_crc_fault {store : Bool} (hdst : store = true → s.dstOff.toNat + 4 ≤ s.cfg.msgbufSize) :
    exec (.crc32 store) s = .fault .undefinedByte ∧ exec (.fingerprint store) s = .fault .undefinedByte :=
  ⟨exec_of_rule_fault (op := 0x0B) (by cases store <;> rfl) (source_store_fault hsrc hm hdst _),
    exec_of_rule_fault (op := 0x0C) (by cases store <;> rfl) (source_store_fault hsrc hm hdst _)⟩

end Source

/-- HDR_DECODE reads 20 bytes, whatever SRC_LEN says beyond them (44_stun_header.md R150). -/
theorem exec_hdrDecode_fault {s : State} (hsrc : s.srcOff.toNat + s.srcLen.toNat ≤ s.cfg.msgbufSize) (h20 : 20 ≤ s.srcLen.toNat)
    (hm : memRead s (hdrSourceRange s) = none) : exec .hdrDecode s = .fault .undefinedByte :=
  exec_of_rule_fault rfl (requireRange_eq_fault.2 ⟨hsrc, require_eq_fault.2 ⟨decide_eq_true h20, withBytes_fault_of_none hm⟩⟩)

section Hmac

variable {s : State} (hsrc : s.srcOff.toNat + s.srcLen.toNat ≤ s.cfg.msgbufSize)
  (hkey : s.keyOff.toNat + s.keyLen.toNat ≤ s.cfg.msgbufSize) (hm : memRead s (srcRange s) = none ∨ memRead s (keyRange s) = none)

include hsrc hkey hm

/-- The rules that check source, key and STORE destination, and then read message and key. -/
theorem source_key_store_fault {store : Bool} {n : Nat} (hdst : store = true → s.dstOff.toNat + n ≤ s.cfg.msgbufSize)
    (k : List Byte → List Byte → ExecResult) :
    (requireRange s (srcRange s) <| requireRange s (keyRange s) <| requireStore store s n <|
      withBytes (memRead s (srcRange s)) fun m => withBytes (memRead s (keyRange s)) (k m)) = .fault .undefinedByte :=
  requireRange_eq_fault.2 ⟨hsrc, requireRange_eq_fault.2 ⟨hkey, requireStore_eq_fault.2 ⟨hdst, withBytes_withBytes_fault hm⟩⟩⟩

theorem exec_hmacSha1_fault {store : Bool} (hdst : store = true → s.dstOff.toNat + 20 ≤ s.cfg.msgbufSize) :
    exec (.hmacSha1 store) s = .fault .undefinedByte :=
  exec_of_rule_fault (op := 0x09) (by cases store <;> rfl) (source_key_store_fault hsrc hkey hm hdst _)

theorem exec_hmacSha256_fault {store : Bool} (hdst : store = true → s.dstOff.toNat + 32 ≤ s.cfg.msgbufSize) :
    exec (.hmacSha256 store) s = .fault .undefinedByte :=
  exec_of_rule_fault (op := 0x0A) (by cases store <;> rfl) (source_key_store_fault hsrc hkey hm hdst _)

end Hmac

/-! ## Undefined bytes of the XOR-address commands (45_xor_address.md R153-R155) -/

/-- The two families and their address lengths (R153). -/
theorem family_cases {f : Byte} {n : Nat} (h : (f = 1 ∧ n = 4) ∨ (f = 2 ∧ n = 16)) : knownFamily f = true ∧ n = addressLen f := by
  rcases h with ⟨rfl, rfl⟩ | ⟨rfl, rfl⟩ <;> exact ⟨rfl, rfl⟩

theorem exec_xaddrEncode_fault {s : State} (hf : knownFamily s.xaFamily = true)
    (hhdr : s.hdrOff.toNat + 4 + 16 ≤ s.cfg.msgbufSize)
    (hdst : s.dstOff.toNat + (4 + addressLen s.xaFamily) ≤ s.cfg.msgbufSize) (hk : memRead s (hdrKeyRange s) = none) :
    exec .xaddrEncode s = .fault .undefinedByte :=
  exec_of_rule_fault rfl (require_eq_fault.2 ⟨hf, requireRange_eq_fault.2 ⟨hhdr, requireRange_eq_fault.2 ⟨hdst,
    withBytes_fault_of_none hk⟩⟩⟩)

section XaddrDecode

variable {s : State} (hsrc : s.srcOff.toNat + s.srcLen.toNat ≤ s.cfg.msgbufSize)
  (hhdr : s.hdrOff.toNat + 4 + 16 ≤ s.cfg.msgbufSize) (h4 : 4 ≤ s.srcLen.toNat)

include hsrc hhdr h4

theorem exec_xaddrDecode_fault_family (hfb : Memory.read s.mem (s.srcOff.toNat + 1) = none) :
    exec .xaddrDecode s = .fault .undefinedByte := by
  have hread : memRead s (familyByteRange s) = none := memRead_eq_none.2 ⟨0, Nat.one_pos, hfb⟩
  exact exec_of_rule_fault rfl (requireRange_eq_fault.2 ⟨hsrc, requireRange_eq_fault.2 ⟨hhdr,
    require_eq_fault.2 ⟨decide_eq_true h4, withBytes_fault_of_none hread⟩⟩⟩)

theorem exec_xaddrDecode_fault_value {f : Byte} (hfb : Memory.read s.mem (s.srcOff.toNat + 1) = some f) (hf : knownFamily f = true)
    (hlen : s.srcLen.toNat = 4 + addressLen f)
    (hm : memRead s (portAddressRange s (addressLen f)) = none ∨ memRead s (hdrKeyRange s) = none) :
    exec .xaddrDecode s = .fault .undefinedByte := by
  have hread : memRead s (familyByteRange s) = some [f] := by
    refine memRead_eq_some.2 ⟨rfl, fun j hj => ?_⟩
    obtain rfl : j = 0 := by simpa using hj
    exact hfb
  exact exec_of_rule_fault rfl (requireRange_eq_fault.2 ⟨hsrc, requireRange_eq_fault.2 ⟨hhdr,
    require_eq_fault.2 ⟨decide_eq_true h4, withBytes_eq_fault.2 (.inr ⟨[f], hread, require_eq_fault.2 ⟨hf,
      require_eq_fault.2 ⟨decide_eq_true hlen, withBytes_withBytes_fault hm⟩⟩⟩)⟩⟩⟩)

end XaddrDecode

/-- Settles O34: the undefined byte makes its range's read fail (`memRead_eq_none`), and each command faults there. -/
theorem undefinedSourceByteFaults : Obligations.UndefinedSourceByteFaults := by
  refine ⟨fun s k hsrc hk hbyte => ?_, fun s k hsrc hkey hbyte => ?_, fun s k n hf hhdr hdst hk hbyte => ?_,
    fun s hsrc hhdr h4 => ⟨exec_xaddrDecode_fault_family hsrc hhdr h4, fun f k n hf hfb hlen hbyte => ?_⟩,
    fun s i k a ha hi hk hbyte => exec_busRead_of_none ?_⟩
  · have hm : memRead s (srcRange s) = none := memRead_eq_none.2 ⟨k, hk, hbyte⟩
    refine ⟨exec_sha1Update_fault hsrc hm, exec_sha256Update_fault hsrc hm, fun _ => exec_sha1_fault hsrc hm,
      fun _ => exec_sha256_fault hsrc hm, fun _ => exec_crc_fault hsrc hm, exec_fpVerify_fault hsrc hm, fun h20 hk20 => ?_⟩
    exact exec_hdrDecode_fault hsrc h20 (memRead_eq_none.2 ⟨k, hk20, hbyte⟩)
  · have hm : memRead s (srcRange s) = none ∨ memRead s (keyRange s) = none :=
      hbyte.imp (fun h => memRead_eq_none.2 ⟨k, h⟩) (fun h => memRead_eq_none.2 ⟨k, h⟩)
    exact ⟨fun _ => exec_hmacSha1_fault hsrc hkey hm, fun _ => exec_hmacSha256_fault hsrc hkey hm⟩
  · obtain ⟨hknown, rfl⟩ := family_cases hf
    exact exec_xaddrEncode_fault hknown hhdr (by omega) (memRead_eq_none.2 ⟨k, hk, hbyte⟩)
  · obtain ⟨hknown, rfl⟩ := family_cases hf
    exact exec_xaddrDecode_fault_value hsrc hhdr h4 hfb hknown hlen
      (hbyte.imp (fun h => memRead_eq_none.2 ⟨k, h⟩) (fun h => memRead_eq_none.2 ⟨k, h⟩))
  · have hread : memRead s ⟨4 * i, 4⟩ = none := memRead_eq_none.2 ⟨k, hk, hbyte⟩
    rw [busAnswer_msgWord (busTarget_msgWord ha hi), hread]
    rfl

end Sys2Proof.Machine
end

section
/-! SUPPORT. The obligations on the encoding (O1, O3): what the fields of an assembled word read back as, that a word is assembled from its
own fields, and hence that the decoder and the encoder undo each other, format by format. -/

namespace Sys2Proof

/-! ## The fields of a word (30_encoding.md R83, R84) -/

/-- A field of one bit is that bit: STORE of a command word, W of a transaction word. -/
theorem ofBool_getLsbD_eq_extractLsb' {w : Nat} (x : BitVec w) (k : Nat) : BitVec.ofBool (x.getLsbD k) = x.extractLsb' k 1 := by
  rw [BitVec.eq_of_getLsbD_eq_iff]
  intro i hi
  obtain rfl : i = 0 := by omega
  simp

@[simp] theorem cmdOpcode_cmdWord (op : Byte) (store : Bool) : cmdOpcode (cmdWord op store) = op :=
  BitVec.extractLsb'_append_eq_right

@[simp] theorem cmdStore_cmdWord (op : Byte) (store : Bool) : cmdStore (cmdWord op store) = store := by
  simp only [cmdStore, cmdWord, BitVec.getLsbD_append]
  simp

@[simp] theorem cmdReserved_cmdWord (op : Byte) (store : Bool) : cmdReserved (cmdWord op store) = 0 := by
  rw [cmdReserved, cmdWord, BitVec.extractLsb'_append_eq_of_le (by decide), BitVec.extractLsb'_append_eq_left]

/-- A command word whose RSVD bits are 0 is assembled from its own opcode and STORE bit. -/
theorem cmdWord_fields {c : Word} (h : cmdReserved c = 0) : cmdWord (cmdOpcode c) (cmdStore c) = c := by
  rw [cmdWord, ← h, cmdStore, ofBool_getLsbD_eq_extractLsb']
  exact (congrArg (· ++ cmdOpcode c) (BitVec.extractLsb'_append_extractLsb'_eq_extractLsb' rfl)).trans
    BitVec.extractLsb'_append_extractLsb'

theorem busWord_write (write : Bool) (a : BusAddr) (d : Word) : (busWord write a d).getLsbD 49 = write := by
  simp only [busWord, BitVec.getLsbD_append]
  simp

@[simp] theorem busWord_address (write : Bool) (a : BusAddr) (d : Word) : (busWord write a d).extractLsb' 32 17 = a := by
  rw [busWord, BitVec.extractLsb'_append_eq_of_le (Nat.le_refl 32), BitVec.extractLsb'_append_eq_right]

@[simp] theorem busWord_data (write : Bool) (a : BusAddr) (d : Word) : (busWord write a d).extractLsb' 0 32 = d :=
  BitVec.extractLsb'_append_eq_right

/-- Every transaction word is assembled from its own W, address and data. -/
theorem busWord_fields (t : BusTxn) : busWord (t.getLsbD 49) (t.extractLsb' 32 17) (t.extractLsb' 0 32) = t := by
  rw [busWord, ofBool_getLsbD_eq_extractLsb']
  exact (congrArg (· ++ t.extractLsb' 0 32) (BitVec.extractLsb'_append_extractLsb'_eq_extractLsb' rfl)).trans
    BitVec.extractLsb'_append_extractLsb'

/-! ## Command words (R83, R90-R92) -/

/-- An assembled command word is looked up in the table by the fields it was assembled from. -/
theorem decodeCmd_cmdWord (op : Byte) (store : Bool) : decodeCmd (cmdWord op store) = decodeOpcode op.toNat store := by
  simp [decodeCmd]

theorem decodeCmd_eq_ok {c : Word} {i : Instr} :
    decodeCmd c = .ok i ↔ cmdReserved c = 0 ∧ decodeOpcode (cmdOpcode c).toNat (cmdStore c) = .ok i := by
  unfold decodeCmd
  split
  · next hreserved => exact ⟨fun hrow => ⟨hreserved, hrow⟩, And.right⟩
  · next hreserved => exact ⟨(fun herr => nomatch herr), fun hok => absurd hok.1 hreserved⟩

/-- Each row of the table decodes to the instruction that the encoder gives that row's opcode (R90): one case per row, and in each the
STORE bit either is refused or is carried over. -/
theorem encode_of_decodeOpcode {op : Nat} {store : Bool} {i : Instr} (h : decodeOpcode op store = .ok i) :
    encode i = .cmd (cmdWord (BitVec.ofNat 8 op) store) := by
  unfold decodeOpcode at h
  split at h
  all_goals cases store <;> cases h <;> rfl

/-- A command word that decodes to an instruction is that instruction's encoding. -/
theorem encode_of_decodeCmd {c : Word} {i : Instr} (h : decodeCmd c = .ok i) : encode i = .cmd c := by
  obtain ⟨hreserved, hrow⟩ := decodeCmd_eq_ok.1 h
  calc encode i = .cmd (cmdWord (BitVec.ofNat 8 (cmdOpcode c).toNat) (cmdStore c)) := encode_of_decodeOpcode hrow
    _ = .cmd (cmdWord (cmdOpcode c) (cmdStore c)) := by rw [BitVec.ofNat_toNat, BitVec.setWidth_eq]
    _ = .cmd c := by rw [cmdWord_fields hreserved]

/-! ## Transaction words (R84) -/

theorem decodeBus_of_write {t : BusTxn} (h : t.getLsbD 49 = true) :
    decodeBus t = .busWrite (t.extractLsb' 32 17) (t.extractLsb' 0 32) := if_pos h

theorem decodeBus_of_read {t : BusTxn} (h : t.getLsbD 49 = false) : decodeBus t = .busRead (t.extractLsb' 32 17) :=
  if_neg (ne_true_of_eq_false h)

theorem encode_decodeBus_of_write {t : BusTxn} (h : t.getLsbD 49 = true) : encode (decodeBus t) = .bus t := by
  calc encode (decodeBus t) = .bus (busWord true (t.extractLsb' 32 17) (t.extractLsb' 0 32)) := by rw [decodeBus_of_write h]; rfl
    _ = .bus t := by rw [← h, busWord_fields]

/-- The encoder gives a read the data bits 0, so that only such a read is got back (notes/assumptions/6.md). -/
theorem encode_decodeBus_of_read {t : BusTxn} (h : t.getLsbD 49 = false) (hd : t.extractLsb' 0 32 = 0) :
    encode (decodeBus t) = .bus t := by
  calc encode (decodeBus t) = .bus (busWord false (t.extractLsb' 32 17) 0) := by rw [decodeBus_of_read h]; rfl
    _ = .bus t := by rw [← h, ← hd, busWord_fields]

theorem decodeBus_busWord (write : Bool) (a : BusAddr) (d : Word) :
    decodeBus (busWord write a d) = if write then .busWrite a d else .busRead a := by
  simp only [decodeBus, busWord_write, busWord_address, busWord_data]

/-! ## Both formats (R82) -/

theorem decode_encode (i : Instr) : decode (encode i) = .ok i := by
  cases i with
  | busWrite a d => exact congrArg Except.ok (decodeBus_busWord true a d)
  | busRead a => exact congrArg Except.ok (decodeBus_busWord false a 0)
  | _ => exact decodeCmd_cmdWord _ _

/-- Settles O1: a row of the table and its encoding name each other (`decode_encode`, `encode_of_decodeCmd`), and a transaction word is
assembled from its own fields (`busWord_fields`). -/
theorem decodeAndEncodeAgree : Obligations.DecodeAndEncodeAgree :=
  ⟨decode_encode, fun _ _ => encode_of_decodeCmd, fun _ => encode_decodeBus_of_write, fun _ => decodeBus_of_read,
    fun _ => encode_decodeBus_of_read⟩

/-- Settles O3: each listed word is the encoding of the instruction its listing names. -/
theorem listedWordsDecode : Obligations.ListedWordsDecode :=
  ⟨decode_encode .nop, decode_encode (.sha1Final true), decode_encode (.sha256 false), decode_encode (.hmacSha1 true),
    decode_encode (.fingerprint true), decode_encode .hdrDecode, decode_encode .xaddrEncode,
    decode_encode (.busWrite 0x00010 0x0000000E), decode_encode (.busWrite 0x10020 0x6E7F1EFF), decode_encode (.busRead 0x10018)⟩

end Sys2Proof
end

section
/-! SUPPORT. The obligations on the registers over the bus (O14, O17, O19, O20, O21, O22): each list of addresses in a statement is a part
of the register map of 10_state.md R24, so that one lemma per kind of register settles every address of it. -/

namespace Sys2Proof.Machine

/-! ## The addresses of a part of the register map -/

/-- The bus addresses of the rows of R24 that satisfy `p`, in the table's order. -/
def addressesOf (p : RegRow → Bool) : List BusAddr := (regTable.filter p).map fun row => row.offset.setWidth 17

theorem mem_addressesOf {p : RegRow → Bool} {a : BusAddr} :
    a ∈ addressesOf p ↔ ∃ row ∈ regTable, p row = true ∧ a = row.offset.setWidth 17 := by
  simp only [addressesOf, List.mem_map, List.mem_filter, and_assoc]
  exact exists_congr fun row => and_congr_right fun _ => and_congr_right fun _ => eq_comm

/-- A row of the access column "RO" (R24). -/
def RegRow.isReadOnly (row : RegRow) : Bool := row.access == .ro

/-- A row whose writes are dropped while BUSY: CMD, and every RW register but CTRL (40_bus_and_control.md R102). -/
def RegRow.isDropped (row : RegRow) : Bool := droppedWhenBusy (.reg row)

/-- A RW register but CTRL: a write stores its data (R24, 40_bus_and_control.md R99). -/
def RegRow.isPlain (row : RegRow) : Bool := row.access == .rw && row.reg != .ctrl

/-! ## Writes to one kind of register -/

/-- A write to a read-only register is answered OK and ignored, BUSY or not (10_state.md R23, 40_bus_and_control.md R102). -/
theorem exec_busWrite_readOnly (s : State) (d : Word) {a : BusAddr} (ha : a ∈ addressesOf RegRow.isReadOnly) :
    exec (.busWrite a d) s = .next (respond s .ok) := by
  obtain ⟨row, hrow, hro, rfl⟩ := mem_addressesOf.1 ha
  have haccess : row.access = .ro := beq_iff_eq.1 hro
  have hkept : droppedWhenBusy (.reg row) = false := by simp [droppedWhenBusy, haccess]
  rw [exec_busWrite_register hrow d (.inr hkept), writeReg_readOnly hrow haccess]

/-- A dropped write sets OVR and does nothing else (40_bus_and_control.md R102). -/
theorem exec_busWrite_dropped {s : State} {a : BusAddr} (hb : s.eng.state = .busy) (hdrop : droppedWhenBusy (busTarget s a) = true)
    (d : Word) : exec (.busWrite a d) s = .next (respond (setOvr s) .ok) := by
  have hbusy : busyFlag s = true := (busyFlag_iff s).2 hb
  have hmapped : refusedTarget (busTarget s a) = false := by
    cases ht : busTarget s a with
    | msgWord | reg => rfl
    | misaligned | unmapped => rw [ht] at hdrop; cases hdrop
  simp [exec, execBusWrite, hmapped, hbusy, hdrop]

theorem droppedWhenBusy_of_mem_addressesOf (s : State) {a : BusAddr} (ha : a ∈ addressesOf RegRow.isDropped) :
    droppedWhenBusy (busTarget s a) = true := by
  obtain ⟨row, hrow, hdrop, rfl⟩ := mem_addressesOf.1 ha
  rw [busTarget_register s hrow]
  exact hdrop

/-- Every aligned address inside the MSGBUF window is dropped while BUSY (40_bus_and_control.md R102). -/
theorem droppedWhenBusy_of_msgbuf {s : State} {a : BusAddr} (hlo : 0x10000 ≤ a.toNat) (halign : a.toNat % 4 = 0)
    (hhi : a.toNat < 0x10000 + s.cfg.msgbufSize) : droppedWhenBusy (busTarget s a) = true := by
  have ht : busTarget s a = .msgWord ((a.toNat - 0x10000) / 4) := busTarget_msgWord (by omega) (by omega)
  rw [ht]
  rfl

/-! ## CTRL, STATUS and CMD -/

theorem ctrlWrite_of_reset (s : State) {d : Word} (hd : d.getLsbD 1 = true) : ctrlWrite s d = softReset s := if_pos hd

/-- A write of CTRL answers in every state of the engine (40_bus_and_control.md R102, R103). -/
theorem exec_busWrite_ctrl (s : State) (d : Word) : exec (.busWrite 0x00008 d) s = .next (respond (ctrlWrite s d) .ok) :=
  exec_busWrite_register (row := ⟨0x008, .ctrl, .rw⟩) (by decide) d (.inr rfl)

/-- Settles O14: a CTRL write is performed in every state, and D[1] picks its branch. -/
theorem ctrlWriteResetsOrSetsIrqEn : Obligations.CtrlWriteResetsOrSetsIrqEn := by
  intro s d
  rw [exec_busWrite_ctrl]
  refine ⟨fun hd => ?_, fun hd => ?_⟩
  · rw [ctrlWrite_of_reset s hd]
    rfl
  · rw [ctrlWrite_of_not_reset s hd]
    rfl

/-- Settles O20: while IDLE the write is performed, and CMD's row is one that is dropped while BUSY. -/
theorem cmdWriteIsAccepted : Obligations.CmdWriteIsAccepted :=
  fun s d => ⟨fun hidle => exec_busWrite_register (row := ⟨0x010, .cmd, .wo⟩) (by decide) d (.inl hidle),
    fun hb => exec_busWrite_dropped hb (droppedWhenBusy_of_mem_addressesOf s (by decide)) d⟩

/-- What a data bit of 1 does to a W1C bit, in the words of 40_bus_and_control.md R104. -/
theorem and_not_eq_ite (bit one : Bool) : (bit && !one) = if one then false else bit := by
  cases one <;> simp

/-- Settles O21: the state written is `statusWrite s d`, which differs from `s` in the three bits alone. -/
theorem statusWriteClearsWrittenOnes : Obligations.StatusWriteClearsWrittenOnes :=
  fun s d => ⟨statusWrite s d, exec_busWrite_status s d, rfl, and_not_eq_ite _ _, and_not_eq_ite _ _, and_not_eq_ite _ _⟩

/-! ## All registers at once -/

/-- IRQ_EN as a read of CTRL shows it (10_state.md R27). -/
theorem ctrlWord_eq (s : State) : ctrlWord s = if s.irqEn then 1 else 0 := by
  unfold ctrlWord
  cases s.irqEn <;> rfl

/-- Settles O17: the list is the register map with the value each row reads as, IRQ_EN written out. -/
theorem busReadReturnsRegister : Obligations.BusReadReturnsRegister := by
  intro s p hp
  rw [← ctrlWord_eq] at hp
  have hmap : p ∈ regTable.map fun row => ((row.offset.setWidth 17 : BusAddr), readReg s row.reg) := hp
  obtain ⟨row, hrow, rfl⟩ := List.mem_map.1 hmap
  exact exec_busRead_register s hrow

/-- Settles O19: the first list is the plain RW rows with the state each one's write gives, the second the read-only rows. -/
theorem busWriteStoresRegister : Obligations.BusWriteStoresRegister := by
  refine fun s d => ⟨fun hidle p hp => ?_, fun a ha => exec_busWrite_readOnly s d ha⟩
  have hmap : p ∈ (regTable.filter RegRow.isPlain).map
      fun row => ((row.offset.setWidth 17 : BusAddr), writeReg s row.reg d) := hp
  obtain ⟨row, hrow, rfl⟩ := List.mem_map.1 hmap
  exact exec_busWrite_register (List.mem_filter.1 hrow).1 d (.inl hidle)

/-- Settles O22: the dropped addresses are the rows dropped while BUSY and the MSGBUF window; the others are those of O14, O21 and O19. -/
theorem writesWhileBusyAreDropped : Obligations.WritesWhileBusyAreDropped := by
  refine fun s d hb => ⟨fun a ha => ?_, fun hd => ?_, fun hd => ?_, exec_busWrite_status s d,
    fun a ha => exec_busWrite_readOnly s d ha⟩
  · rcases ha with hreg | ⟨hlo, halign, hhi⟩
    · exact exec_busWrite_dropped hb (droppedWhenBusy_of_mem_addressesOf s hreg) d
    · exact exec_busWrite_dropped hb (droppedWhenBusy_of_msgbuf hlo halign hhi) d
  · rw [exec_busWrite_ctrl, ctrlWrite_of_not_reset s hd]
  · rw [exec_busWrite_ctrl, ctrlWrite_of_reset s hd]
    rfl

end Sys2Proof.Machine
end

section
/-! SUPPORT. The obligations on the engine (O2, O4, O6, O7, O32): the set of legal command words, what a step runs, and why no run stays
BUSY: every step takes one pending move, and with none left the engine moves and ends IDLE. -/

namespace Sys2Proof.Machine

/-! ## The legal command words (30_encoding.md R92, 40_bus_and_control.md R108) -/

/-- The encoder gives a command one of the 26 words. -/
theorem mem_legalWords_of_encode {i : Instr} {c : Word} (h : encode i = .cmd c) : c ∈ legalWords := by
  cases i with
  | busWrite | busRead => cases h
  | sha1Final store | sha1 store | sha256Final store | sha256 store | hmacSha1 store | hmacSha256 store | crc32 store
  | fingerprint store => cases store <;> cases h <;> decide
  | _ => cases h; decide

theorem decode_of_mem_legalWords {c : Word} (h : c ∈ legalWords) : ∃ i, decode (.cmd c) = .ok i := by
  have hlisted : (legalWords.all fun c => (decodeCmd c).isOk) = true := by decide
  have hok := List.all_eq_true.1 hlisted c h
  cases hc : decodeCmd c with
  | ok i => exact ⟨i, hc⟩
  | error e => rw [hc] at hok; cases hok

/-- `legal(c)` on the number `c`, as 40_bus_and_control.md R108 writes its three conditions. -/
abbrev LegalNumber (n : Nat) : Prop :=
  n / 512 = 0 ∧ n % 256 ≤ 0x11 ∧ (n / 256 % 2 = 0 ∨ n % 256 ∈ [0x03, 0x04, 0x07, 0x08, 0x09, 0x0A, 0x0B, 0x0C])

/-- A legal number is below 512, so its opcode and STORE are all of it: 36 numbers to look up. -/
theorem mem_legalWords_of_legalNumber {c : Word} (h : LegalNumber c.toNat) : c ∈ legalWords := by
  obtain ⟨hreserved, hop, hstore⟩ := h
  have htable : ∀ (op : Fin 18) (store : Fin 2), (store.val = 0 ∨ op.val ∈ [0x03, 0x04, 0x07, 0x08, 0x09, 0x0A, 0x0B, 0x0C]) →
      BitVec.ofNat 32 (256 * store + op) ∈ legalWords := by decide +kernel
  have hfields : 256 * (c.toNat / 256 % 2) + c.toNat % 256 = c.toNat := by omega
  have hmem := htable ⟨c.toNat % 256, by omega⟩ ⟨c.toNat / 256 % 2, by omega⟩ hstore
  rwa [Fin.val_mk, Fin.val_mk, hfields, BitVec.ofNat_toNat, BitVec.setWidth_eq] at hmem

theorem mem_legalWords_iff (c : Word) : c ∈ legalWords ↔ LegalNumber c.toNat := by
  refine ⟨fun h => ?_, mem_legalWords_of_legalNumber⟩
  have hlisted : (legalWords.all fun c => decide (LegalNumber c.toNat)) = true := by decide
  exact of_decide_eq_true (List.all_eq_true.1 hlisted c h)

/-- Settles O2: a word that decodes is the encoding of its instruction (`encode_of_decodeCmd`), and the encoder gives the listed words
only; R108's conditions leave the same words. -/
theorem exactlyTwentySixWordsAreLegal : Obligations.ExactlyTwentySixWordsAreLegal := by
  refine ⟨rfl, by decide, fun c => ⟨⟨fun ⟨i, hi⟩ => ?_, decode_of_mem_legalWords⟩, mem_legalWords_iff c⟩⟩
  exact mem_legalWords_of_encode (encode_of_decodeCmd hi)

/-! ## What a step runs (40_bus_and_control.md R107, R109) -/

theorem engineStep_of_busy {s : State} (h : s.eng.state = .busy) : engineStep s = runWord (.cmd s.eng.cmd) s := by
  simp only [engineStep, h]

theorem engineStep_of_idle {s : State} (h : s.eng.state = .idle) : engineStep s = .next s := by
  simp only [engineStep, h]

theorem runWord_of_decode {w : InstrWord} {i : Instr} (h : decode w = .ok i) (s : State) : runWord w s = exec i s := by
  simp only [runWord, h]

/-- Settles O4: the engine's turn runs the accepted word, a 32-bit access its transaction word, and a word that decodes runs as its
instruction (`runWord_of_decode`). -/
theorem stepRunsDecodedInstruction : Obligations.StepRunsDecodedInstruction := by
  refine ⟨fun s i hb hn hi => ?_, fun s w i ⟨rest, hp⟩ hi => ?_⟩
  · rw [step_of_engineNext hn, engineStep_of_busy (s := takeMove s) hb]
    exact runWord_of_decode hi _
  · rw [step_of_access hp, hostAccess, if_pos rfl, runWord_of_decode hi]

/-- Settles O32: NOP's rule answers OK with the state as it is. -/
theorem nopOnlyCompletes : Obligations.NopOnlyCompletes := fun s => finish_ok 0x00 s s

/-- The engine's move while IDLE (40_bus_and_control.md R107). -/
theorem step_of_engineNext_idle {s : State} (hn : s.engineNext) (hidle : s.eng.state = .idle) : step s = .next (takeMove s) := by
  rw [step_of_engineNext hn]
  exact engineStep_of_idle hidle

/-- The engine's move ends IDLE: a completion does, and without one it was IDLE. -/
theorem idle_of_engineMove {s t : State} (hn : s.engineNext) (hs : step s = .next t) : t.eng.state = .idle := by
  cases he : s.eng.state with
  | idle =>
    rw [step_of_engineNext_idle hn he] at hs
    cases hs
    exact he
  | busy =>
    obtain ⟨op, code, u, rfl, -⟩ := engineMove_eq_complete he hn hs
    rfl

/-- Settles O6, by `idle_of_engineMove`. -/
theorem engineMoveEndsIdle : Obligations.EngineMoveEndsIdle :=
  fun _ hn => ⟨fun _ => idle_of_engineMove hn, step_of_engineNext_idle hn⟩

/-! ## What no EXEC rule writes -/

/-- `t` holds what `s` holds of everything that no EXEC rule writes: the parameter, IRQ_EN, the W1C bits ERR and OVR, the operand
registers, the engine and the host's side (10_state.md R21; 40_bus_and_control.md R109). -/
structure KeepsControl (s t : State) : Prop where
  cfg : t.cfg = s.cfg
  irqEn : t.irqEn = s.irqEn
  err : t.status.err = s.status.err
  ovr : t.status.ovr = s.status.ovr
  srcOff : t.srcOff = s.srcOff
  srcLen : t.srcLen = s.srcLen
  dstOff : t.dstOff = s.dstOff
  keyOff : t.keyOff = s.keyOff
  keyLen : t.keyLen = s.keyLen
  hdrOff : t.hdrOff = s.hdrOff
  eng : t.eng = s.eng
  host : t.host = s.host

namespace KeepsControl

variable {s t : State}

theorem refl (s : State) : KeepsControl s s := ⟨rfl, rfl, rfl, rfl, rfl, rfl, rfl, rfl, rfl, rfl, rfl, rfl⟩

theorem withDigest (h : KeepsControl s t) (d : Words8) : KeepsControl s { t with digest := d } := { h with }

theorem withCrcOut (h : KeepsControl s t) (w : Word) : KeepsControl s { t with crcOut := w } := { h with }

theorem withCtx1 (h : KeepsControl s t) (c : HashCtx Words5) : KeepsControl s { t with ctx1 := c } := { h with }

theorem withCtx2 (h : KeepsControl s t) (c : HashCtx Words8) : KeepsControl s { t with ctx2 := c } := { h with }

/-- The STORE write changes MSGBUF only (40_bus_and_control.md R112). -/
theorem storeResult (h : KeepsControl s t) (store : Bool) (bs : List Byte) : KeepsControl s (storeResult store bs t) := by
  rw [storeResult_eq]
  exact { h with }

/-- A failure's status effect is HDR_VALID or FP_MATCH (60_exceptions.md R165). -/
theorem onFail (i : Instr) (s : State) : KeepsControl s { s with status := onFail i s.status } := by
  rw [onFail_eq]
  exact { refl s with }

/-- The effects of every EXEC rule with code OK (40_bus_and_control.md R109). -/
theorem rule_ok {i : Instr} (hr : rule i s = .ok t) : KeepsControl s t := by
  have h := refl s
  cases i with
  | nop | busWrite | busRead => cases hr; exact h
  | sha1Init => cases hr; exact h.withCtx1 _
  | sha256Init => cases hr; exact h.withCtx2 _
  | sha1Update => obtain ⟨-, -, -, m, -, rfl⟩ := sha1UpdateRule_eq_ok.1 hr; exact h.withCtx1 _
  | sha256Update => obtain ⟨-, -, -, m, -, rfl⟩ := sha256UpdateRule_eq_ok.1 hr; exact h.withCtx2 _
  | sha1Final store =>
    obtain ⟨-, -, rfl⟩ := sha1FinalRule_eq_ok.1 hr
    exact ((h.withDigest (digestRegs5 _)).withCtx1 _).storeResult _ _
  | sha256Final store =>
    obtain ⟨-, -, rfl⟩ := sha256FinalRule_eq_ok.1 hr
    exact ((h.withDigest (digestRegs8 _)).withCtx2 _).storeResult _ _
  | sha1 store =>
    obtain ⟨-, -, m, -, rfl⟩ := sha1Rule_eq_ok.1 hr
    exact (h.withDigest _).storeResult _ _
  | sha256 store =>
    obtain ⟨-, -, m, -, rfl⟩ := sha256Rule_eq_ok.1 hr
    exact (h.withDigest _).storeResult _ _
  | hmacSha1 store =>
    obtain ⟨-, -, -, m, -, kb, -, rfl⟩ := hmacSha1Rule_eq_ok.1 hr
    exact (h.withDigest _).storeResult _ _
  | hmacSha256 store =>
    obtain ⟨-, -, -, m, -, kb, -, rfl⟩ := hmacSha256Rule_eq_ok.1 hr
    exact (h.withDigest _).storeResult _ _
  | crc32 store =>
    obtain ⟨-, -, m, -, rfl⟩ := crc32Rule_eq_ok.1 hr
    exact (h.withCrcOut _).storeResult _ _
  | fingerprint store =>
    obtain ⟨-, -, m, -, rfl⟩ := fingerprintRule_eq_ok.1 hr
    exact (h.withCrcOut _).storeResult _ _
  | fpVerify => obtain ⟨-, -, m, -, rfl⟩ := fpVerifyRule_eq_ok.1 hr; exact { h with }
  | hdrEncode => obtain ⟨-, rfl⟩ := hdrEncodeRule_eq_ok.1 hr; exact { h with }
  | hdrDecode => obtain ⟨-, -, hdr, -, -, -, -, -, rfl⟩ := hdrDecodeRule_eq_ok.1 hr; exact { h with }
  | xaddrEncode => obtain ⟨-, -, -, k, -, rfl⟩ := xaddrEncodeRule_eq_ok.1 hr; exact { h with }
  | xaddrDecode => obtain ⟨-, -, -, fb, -, -, -, v, -, k, -, rfl⟩ := xaddrDecodeRule_eq_ok.1 hr; exact { h with }

end KeepsControl

/-- A command answers with the common completion fields over a state that `KeepsControl`, whatever its code (R113). -/
theorem exec_command_keepsControl {i : Instr} {op : Byte} {s t : State} (hop : i.opcode = some op) (hx : exec i s = .next t) :
    ∃ code u, t = complete op code u ∧ KeepsControl s u := by
  rw [exec_eq_finishWith i op s hop] at hx
  rcases finishWith_eq_next.1 hx with ⟨u, hr, rfl⟩ | ⟨code, -, rfl⟩
  · exact ⟨.ok, u, rfl, .rule_ok hr⟩
  · exact ⟨code, _, rfl, .onFail i s⟩

/-! ## The pending moves (40_bus_and_control.md R107, notes/assumptions/3.md) -/

/-- No register write touches the host's side, a soft reset included (notes/assumptions/12.md). -/
theorem writeReg_host (s : State) (r : Reg) (d : Word) : (writeReg s r d).host = s.host := by
  cases r
  case ctrl => simp only [writeReg, ctrlWrite]; split <;> rfl
  all_goals rfl

/-- A bus access adds an answer to the host's record and leaves the pending moves. -/
theorem exec_decodeBus_pending {w : BusTxn} {s t : State} (hx : exec (decodeBus w) s = .next t) :
    t.host.pending = s.host.pending := by
  rcases decodeBus_eq w with ⟨a, d, hw⟩ | ⟨a, hw⟩ <;> rw [hw] at hx
  · rcases busWrite_eq_next hx with rfl | ⟨-, -, rfl⟩ | ⟨i, -, -, rfl⟩ | ⟨row, -, -, rfl⟩
    · rfl
    · rfl
    · rfl
    · rw [respond_host, writeReg_host]
  · obtain ⟨r, rfl⟩ := busRead_eq_next hx
    rfl

/-- Every step takes one pending move, if there is one, and adds none. -/
theorem step_pending {s t : State} (hs : step s = .next t) : t.host.pending = s.host.pending.tail := by
  rcases step_eq_next hs with ⟨-, -, rfl⟩ | ⟨-, -, i, hi, hx⟩ | ⟨-, -, -, rfl⟩ | ⟨size, w, rest, -, -, rfl⟩ |
    ⟨w, rest, -, hx⟩ | ⟨rest, -, rfl⟩
  · rfl
  · obtain ⟨code, u, rfl, hu⟩ := exec_command_keepsControl (opcode_of_decode hi) hx
    rw [complete_host, hu.host, takeMove_host]
  · rfl
  · rfl
  · rw [exec_decodeBus_pending hx, takeMove_host]
  · rfl

theorem run_succ_eq_next {k : Nat} {s t : State} (h : Host.Core.run Sys2Proof.core (k + 1) s = .next t) :
    ∃ u, step s = .next u ∧ Host.Core.run Sys2Proof.core k u = .next t := by
  simp only [Host.Core.run] at h
  split at h
  · next u hu => exact ⟨u, hu, h⟩
  · cases h
  · cases h

/-- A run of one step more than its pending moves: the last of its steps is the engine's. -/
theorem run_ends_idle (k : Nat) {s t : State} (hk : s.host.pending.length = k)
    (h : Host.Core.run Sys2Proof.core (k + 1) s = .next t) : t.eng.state = .idle ∧ t.host.pending = [] := by
  induction k generalizing s with
  | zero =>
    obtain ⟨u, hu, hrun⟩ := run_succ_eq_next h
    cases hrun
    have hnone : s.host.pending = [] := List.length_eq_zero_iff.1 hk
    exact ⟨idle_of_engineMove (.inl hnone) hu, by rw [step_pending hu, hnone]; rfl⟩
  | succ k ih =>
    obtain ⟨u, hu, hrun⟩ := run_succ_eq_next h
    exact ih (by rw [step_pending hu, List.length_tail, hk, Nat.add_sub_cancel]) hrun

/-- Settles O7, by `run_ends_idle`. -/
theorem noRunStaysBusy : Obligations.NoRunStaysBusy := fun _ _ h => run_ends_idle _ rfl h

end Sys2Proof.Machine
end

section
/-! SUPPORT. The hash algorithms (O35, O36): the message-schedule pipeline of both units against the schedule's recurrence, and absorbing
as the compression of whole blocks, over any compression function. -/

namespace Sys2Proof.Machine

/-! ## The pipeline and the schedule (41_sha1.md R117, 42_sha256.md R130) -/

/-- The pipeline at the start of round `t`: sixteen words, those of the schedule `W` from `t` on, as far as its word `last`. -/
structure HoldsSchedule (W : Nat → Word) (last t : Nat) (w : List Word) : Prop where
  length : w.length = 16
  word : ∀ j, j < 16 → t + j ≤ last → pipeWord w j = W (t + j)

theorem loadPipeline_word (block : List Byte) {j : Nat} (hj : j < 16) :
    pipeWord (loadPipeline block) j = be32 (slice block (4 * j) (4 * j + 4)) := by
  simp [pipeWord, loadPipeline, hj, wordAt]

theorem HoldsSchedule.load {W : Nat → Word} {block : List Byte} (last : Nat)
    (hW : ∀ t, t < 16 → W t = be32 (slice block (4 * t) (4 * t + 4))) : HoldsSchedule W last 0 (loadPipeline block) where
  length := by simp [loadPipeline]
  word j hj _ := by rw [loadPipeline_word block hj, Nat.zero_add, hW j hj]

theorem shiftPipeline_word_of_lt {w : List Word} (hlen : w.length = 16) (entering : Word) {j : Nat} (hj : j < 15) :
    pipeWord (shiftPipeline w entering) j = pipeWord w (j + 1) := by
  have hin : j < (w.drop 1).length := by rw [List.length_drop, hlen]; exact hj
  rw [pipeWord, shiftPipeline, List.getD_append _ _ _ _ hin, pipeWord, List.getD_eq_getElem?_getD, List.getElem?_drop,
    Nat.add_comm, List.getD_eq_getElem?_getD]

theorem shiftPipeline_word_last {w : List Word} (hlen : w.length = 16) (entering : Word) :
    pipeWord (shiftPipeline w entering) 15 = entering := by
  simp [pipeWord, shiftPipeline, hlen]

/-- A round keeps the pipeline on the schedule, where the word that enters is the schedule's next one. -/
theorem HoldsSchedule.shift {W : Nat → Word} {last t : Nat} {w : List Word} {entering : Word} (h : HoldsSchedule W last t w)
    (henter : t + 16 ≤ last → entering = W (t + 16)) : HoldsSchedule W last (t + 1) (shiftPipeline w entering) where
  length := by simp [shiftPipeline, h.length]
  word j hj hlast := by
    rcases Nat.lt_or_eq_of_le (Nat.le_of_lt_succ hj) with hlt | rfl
    · rw [shiftPipeline_word_of_lt h.length entering hlt, h.word (j + 1) (by omega) (by omega)]
      congr 1
      omega
    · rw [shiftPipeline_word_last h.length, henter (by omega)]

section Sha1Schedule

variable {block : List Byte} {W : Nat → Word} (hload : ∀ t, t < 16 → W t = be32 (slice block (4 * t) (4 * t + 4)))
  (hrec : ∀ t, 16 ≤ t → t ≤ 79 → W t = rotl 1 (W (t - 3) ^^^ W (t - 8) ^^^ W (t - 14) ^^^ W (t - 16)))

include hload hrec

theorem sha1Rounds_holdsSchedule (h : Words5) (t : Nat) : HoldsSchedule W 79 t (sha1Rounds t (sha1Start h block)).w := by
  induction t with
  | zero => exact .load 79 hload
  | succ t ih =>
    refine ih.shift fun hlast => ?_
    rw [ih.word 13 (by omega) (by omega), ih.word 8 (by omega) (by omega), ih.word 2 (by omega) (by omega),
      ih.word 0 (by omega) (by omega)]
    exact (hrec (t + 16) (by omega) hlast).symm

end Sha1Schedule

section Sha256Schedule

variable {block : List Byte} {W : Nat → Word} (hload : ∀ t, t < 16 → W t = be32 (slice block (4 * t) (4 * t + 4)))
  (hrec : ∀ t, 16 ≤ t → t ≤ 63 → W t = smallSigma1 (W (t - 2)) + W (t - 7) + smallSigma0 (W (t - 15)) + W (t - 16))

include hload hrec

theorem sha256Rounds_holdsSchedule (h : Words8) (t : Nat) : HoldsSchedule W 63 t (sha256Rounds t (sha256Start h block)).w := by
  induction t with
  | zero => exact .load 63 hload
  | succ t ih =>
    refine ih.shift fun hlast => ?_
    rw [ih.word 14 (by omega) (by omega), ih.word 9 (by omega) (by omega), ih.word 1 (by omega) (by omega),
      ih.word 0 (by omega) (by omega)]
    exact (hrec (t + 16) (by omega) hlast).symm

end Sha256Schedule

/-- Settles O35: every round keeps each pipeline on its schedule. -/
theorem pipelinesAreSchedules : Obligations.PipelinesAreSchedules :=
  ⟨fun h _ _ hload hrec t j hj hlast => (sha1Rounds_holdsSchedule hload hrec h t).word j hj hlast,
    fun h _ _ hload hrec t j hj hlast => (sha256Rounds_holdsSchedule hload hrec h t).word j hj hlast⟩

/-! ## Absorbing and padding (41_sha1.md R118, R119) -/

section Absorb

variable {σ : Type} (compress : σ → List Byte → σ)

/-- A byte absorbed now is a byte of the blocks to compress later. -/
theorem compressBlocks_absorbByte (c : HashCtx σ) (x : Byte) (hbuf : c.buf.length < 64) (rest : List Byte) (k : Nat) :
    compressBlocks compress (absorbByte compress c x).H ((absorbByte compress c x).buf ++ rest) k =
      compressBlocks compress c.H (c.buf ++ x :: rest) ((c.buf.length + 1) / 64 + k) := by
  unfold absorbByte
  split
  · next hfull =>
    have hlen : c.buf.length + 1 = 64 := by simpa using hfull
    have hblock : c.buf ++ x :: rest = (c.buf ++ [x]) ++ rest := by simp
    rw [hlen, show 64 / 64 + k = k + 1 by omega, compressBlocks, hblock, List.take_left' hfull, List.drop_left' hfull,
      List.nil_append]
  · next hpart =>
    have hlen : c.buf.length + 1 < 64 := by simp at hpart; omega
    rw [Nat.div_eq_of_lt hlen, Nat.zero_add, List.append_assoc, List.singleton_append]

/-- Absorbing `m` compresses the whole blocks of buffer and `m`, and leaves the rest in the buffer. -/
theorem compressBlocks_absorb (m : List Byte) (c : HashCtx σ) (hbuf : c.buf.length < 64) (rest : List Byte) (k : Nat) :
    compressBlocks compress (absorb compress c m).H ((absorb compress c m).buf ++ rest) k =
      compressBlocks compress c.H (c.buf ++ m ++ rest) ((c.buf.length + m.length) / 64 + k) := by
  induction m generalizing c with
  | nil => simp [absorb, Nat.div_eq_of_lt hbuf]
  | cons x m ih =>
    have hlen := absorbByte_buf_length compress c x hbuf
    have hblocks : (c.buf.length + 1) / 64 + (((c.buf.length + 1) % 64 + m.length) / 64 + k) =
        (c.buf.length + (x :: m).length) / 64 + k := by rw [List.length_cons]; omega
    calc compressBlocks compress (absorb compress c (x :: m)).H ((absorb compress c (x :: m)).buf ++ rest) k
        = compressBlocks compress (absorbByte compress c x).H ((absorbByte compress c x).buf ++ m ++ rest)
            (((c.buf.length + 1) % 64 + m.length) / 64 + k) := by
          rw [← hlen]; exact ih (absorbByte compress c x) (by omega)
      _ = compressBlocks compress c.H (c.buf ++ (x :: m) ++ rest) ((c.buf.length + (x :: m).length) / 64 + k) := by
          rw [List.append_assoc, compressBlocks_absorbByte compress c x hbuf, hblocks, List.append_assoc, List.cons_append]

/-- The padding's count of zero bytes depends on the message's length modulo the block size only. -/
theorem padZeros_eq {n k : Nat} (hk : k < 64) (hmul : (n + 1 + k + 8) % 64 = 0) : padZeros (n % 64) = k := by
  rw [padZeros]; omega

theorem finalizeHash_eq_compressBlocks (h : σ) {buf : List Byte} {n k : Nat} (hbuf : buf.length = n % 64) (hk : k < 64)
    (hmul : (n + 1 + k + 8) % 64 = 0) :
    finalizeHash compress h buf n =
      compressBlocks compress h (buf ++ ([0x80] ++ List.replicate k 0 ++ bytes64 (8 * n))) ((n % 64 + 1 + k + 8) / 64) := by
  have hpad : padded buf n = buf ++ ([0x80] ++ List.replicate k 0 ++ bytes64 (8 * n)) := by
    rw [padded, hbuf, padZeros_eq hk hmul]; simp only [List.append_assoc]
  have hlen : (padded buf n).length = n % 64 + 1 + k + 8 := by rw [hpad]; simp [hbuf]; omega
  rw [finalizeHash, hlen, hpad]

theorem hashWords_eq_compressBlocks (iv : σ) (m : List Byte) {k : Nat} (hk : k < 64) (hmul : (m.length + 1 + k + 8) % 64 = 0) :
    hashWords compress iv m =
      compressBlocks compress iv (m ++ [0x80] ++ List.replicate k 0 ++ bytes64 (8 * m.length)) ((m.length + 1 + k + 8) / 64) := by
  have hempty : (freshCtx iv).buf.length < 64 := Nat.zero_lt_succ 63
  have hn : (absorb compress (freshCtx iv) m).n = m.length := Nat.zero_add _
  have hbuf : (absorb compress (freshCtx iv) m).buf.length = m.length % 64 := by
    rw [absorb_buf_length compress _ m hempty]; exact congrArg (· % 64) (Nat.zero_add _)
  have hblocks : (0 + m.length) / 64 + (m.length % 64 + 1 + k + 8) / 64 = (m.length + 1 + k + 8) / 64 := by omega
  rw [hashWords, hn, finalizeHash_eq_compressBlocks compress _ hbuf hk hmul, compressBlocks_absorb compress m _ hempty, ← hblocks]
  simp [freshCtx]

/-- Chunk boundaries do not matter (41_sha1.md R121). -/
theorem absorb_append (c : HashCtx σ) (a b : List Byte) :
    absorb compress c (a ++ b) = absorb compress (absorb compress c a) b := by
  simp only [absorb, List.foldl_append, foldl_absorbByte_with_n, List.length_append, Nat.add_assoc]

/-- The buffer keeps what the count leaves over whole blocks (10_state.md R45, R46). -/
theorem absorb_buf_length_of_count {c : HashCtx σ} (hc : c.buf.length = c.n % 64) (m : List Byte) :
    (absorb compress c m).buf.length = (absorb compress c m).n % 64 := by
  rw [absorb_buf_length compress c m (by omega), absorb_n, hc, Nat.mod_add_mod]

end Absorb

/-- Settles O36, by `hashWords_eq_compressBlocks`. -/
theorem hashIsPaddedBlocks : Obligations.HashIsPaddedBlocks :=
  fun _ compress iv m _ hk hmul => hashWords_eq_compressBlocks compress iv m hk hmul

end Sys2Proof.Machine
end

section
/-! SUPPORT. The obligations on the SHA-1 commands and on streaming (O37-O40, O42, O44): an EXEC rule's answer carried through its
completion, then what each command answers. -/

namespace Sys2Proof.Machine

/-! ## A command whose rule answers code OK (40_bus_and_control.md R109, R113) -/

theorem exec_of_rule_ok {i : Instr} {op : Byte} {s s' : State} (hop : i.opcode = some op) (hr : rule i s = .ok s') :
    exec i s = .next (s'.succeeded op) := by
  rw [exec_eq_finishWith i op s hop, hr, finishWith, complete_ok]

/-- Only a rule that answers code OK completes with ERRCODE 0. -/
theorem rule_ok_of_errcode_ok {i : Instr} {op : Byte} {s t : State} (hop : i.opcode = some op) (hx : exec i s = .next t)
    (hok : t.status.errcode = .ok) : ∃ s', rule i s = .ok s' ∧ t = s'.succeeded op := by
  rw [exec_eq_finishWith i op s hop] at hx
  rcases finishWith_eq_next.1 hx with ⟨s', hr, rfl⟩ | ⟨code, hr, rfl⟩
  · exact ⟨s', hr, complete_ok op s'⟩
  · rw [complete_status] at hok
    exact absurd (hok ▸ hr) (rule_ne_error_ok i s)

/-- An error of a command with no status effect of its own: nothing but the common completion fields. -/
theorem exec_of_rule_error_plain {i : Instr} {op : Byte} {s : State} {code : ErrCode} (hop : i.opcode = some op)
    (hplain : onFail i = id) (hcode : code ≠ .ok) (hr : rule i s = .error code) : exec i s = .next (s.failed op code) := by
  have hx := exec_of_rule_error hop hcode hr
  rwa [hplain] at hx

/-- A rule that ends with the generic STORE write: the effects `u` without it, and the result's bytes at DST_OFF. -/
theorem exec_of_rule_stores {i : Instr} {op : Byte} {s u : State} {store : Bool} {bs : List Byte} (hop : i.opcode = some op)
    (hr : rule i s = .ok (storeResult store bs u)) :
    ∃ t, exec i s = .next t ∧ t = { u.succeeded op with mem := t.mem } ∧
      Memory.afterStore t.mem u.mem store u.dstOff.toNat bs := by
  refine ⟨_, exec_of_rule_ok hop hr, ?_, storeResult_mem store bs u⟩
  rw [storeResult_eq]
  rfl

/-! ## INIT (41_sha1.md R120, 42_sha256.md R133) -/

/-- Settles O37: INIT has no error, and its rule writes the fresh context. -/
theorem initStartsStream : Obligations.InitStartsStream :=
  fun _ => ⟨exec_of_rule_ok (i := .sha1Init) rfl rfl, exec_of_rule_ok (i := .sha256Init) rfl rfl⟩

/-! ## UPDATE (41_sha1.md R121, 42_sha256.md R134) -/

/-- Settles O38: all checks pass, the range reads as its bytes, and `absorb` keeps the shape of the context. -/
theorem updateAbsorbsRange : Obligations.UpdateAbsorbsRange := by
  intro s m hsrc hlen hm
  have hread : memRead s (srcRange s) = some m := memRead_eq_some.2 ⟨hlen, hm⟩
  refine ⟨fun hvalid hn => ?_, fun hvalid hn => ?_⟩
  · have hr : rule .sha1Update s = .ok { s with ctx1 := absorb compress1 s.ctx1 m } :=
      sha1UpdateRule_eq_ok.2 ⟨hsrc, hvalid, hn, m, hread, rfl⟩
    exact ⟨_, exec_of_rule_ok rfl hr, rfl, rfl, congrArg (s.ctx1.n + ·) hlen, (absorb_valid compress1 s.ctx1 m).trans hvalid,
      fun hbuf => absorb_buf_length_of_count compress1 hbuf m⟩
  · have hr : rule .sha256Update s = .ok { s with ctx2 := absorb compress2 s.ctx2 m } :=
      sha256UpdateRule_eq_ok.2 ⟨hsrc, hvalid, hn, m, hread, rfl⟩
    exact ⟨_, exec_of_rule_ok rfl hr, rfl, rfl, congrArg (s.ctx2.n + ·) hlen, (absorb_valid compress2 s.ctx2 m).trans hvalid,
      fun hbuf => absorb_buf_length_of_count compress2 hbuf m⟩

/-! ## Errors (41_sha1.md R121, R122, 42_sha256.md R134, R135) -/

section Checks

variable {s : State} (k : ExecResult)

theorem require_stop {c : Bool} (e : ErrCode) (h : c = false) : require c e k = .error e :=
  require_eq_error.2 (.inl ⟨h, rfl⟩)

/-- The second check of both UPDATEs. -/
theorem update_seq {valid : Bool} (hsrc : s.srcOff.toNat + s.srcLen.toNat ≤ s.cfg.msgbufSize) (hvalid : valid = false) :
    requireRange s (srcRange s) (require valid .seq k) = .error .seq :=
  (requireRange_pass _ hsrc).trans (require_stop k .seq hvalid)

/-- The third check of both UPDATEs. -/
theorem update_tooLong {valid : Bool} {n : Nat} (hsrc : s.srcOff.toNat + s.srcLen.toNat ≤ s.cfg.msgbufSize) (hvalid : valid = true)
    (hn : maxStreamBytes < n) :
    requireRange s (srcRange s) (require valid .seq (require (decide (n ≤ maxStreamBytes)) .tooLong k)) = .error .tooLong :=
  (requireRange_pass _ hsrc).trans
    (require_eq_error.2 (.inr ⟨hvalid, require_stop k .tooLong (decide_eq_false (Nat.not_le.2 hn))⟩))

/-- The second check of both FINALs. -/
theorem final_seq {store valid : Bool} {len : Nat} (hdst : store = true → s.dstOff.toNat + len ≤ s.cfg.msgbufSize)
    (hvalid : valid = false) : requireStore store s len (require valid .seq k) = .error .seq :=
  (requireStore_pass _ hdst).trans (require_stop k .seq hvalid)

end Checks

theorem opcode_sha1Final (store : Bool) : (Instr.sha1Final store).opcode = some 0x03 := by cases store <;> rfl

theorem opcode_sha256Final (store : Bool) : (Instr.sha256Final store).opcode = some 0x07 := by cases store <;> rfl

section StreamErrors

variable {s : State}

theorem exec_sha1Update_errors (hsrc : s.srcOff.toNat + s.srcLen.toNat ≤ s.cfg.msgbufSize) :
    (s.ctx1.valid = false → exec .sha1Update s = .next (s.failed 0x02 .seq)) ∧
    (s.ctx1.valid = true → maxStreamBytes < s.ctx1.n + s.srcLen.toNat → exec .sha1Update s = .next (s.failed 0x02 .tooLong)) :=
  ⟨fun hvalid => exec_of_rule_error_plain rfl rfl (by decide) (update_seq _ hsrc hvalid),
    fun hvalid hn => exec_of_rule_error_plain rfl rfl (by decide) (update_tooLong _ hsrc hvalid hn)⟩

theorem exec_sha256Update_errors (hsrc : s.srcOff.toNat + s.srcLen.toNat ≤ s.cfg.msgbufSize) :
    (s.ctx2.valid = false → exec .sha256Update s = .next (s.failed 0x06 .seq)) ∧
    (s.ctx2.valid = true → maxStreamBytes < s.ctx2.n + s.srcLen.toNat → exec .sha256Update s = .next (s.failed 0x06 .tooLong)) :=
  ⟨fun hvalid => exec_of_rule_error_plain rfl rfl (by decide) (update_seq _ hsrc hvalid),
    fun hvalid hn => exec_of_rule_error_plain rfl rfl (by decide) (update_tooLong _ hsrc hvalid hn)⟩

theorem exec_sha1Final_seq {store : Bool} (hvalid : s.ctx1.valid = false)
    (hdst : store = true → s.dstOff.toNat + 20 ≤ s.cfg.msgbufSize) : exec (.sha1Final store) s = .next (s.failed 0x03 .seq) :=
  exec_of_rule_error_plain (opcode_sha1Final store) rfl (by decide) (final_seq _ hdst hvalid)

theorem exec_sha256Final_seq {store : Bool} (hvalid : s.ctx2.valid = false)
    (hdst : store = true → s.dstOff.toNat + 32 ≤ s.cfg.msgbufSize) : exec (.sha256Final store) s = .next (s.failed 0x07 .seq) :=
  exec_of_rule_error_plain (opcode_sha256Final store) rfl (by decide) (final_seq _ hdst hvalid)

end StreamErrors

/-- Settles O39: each check stops its rule where those before it pass. -/
theorem streamErrorsInOrder : Obligations.StreamErrorsInOrder := by
  refine fun s => ⟨fun hsrc => ?update_range, fun hsrc => ?update_order, fun hdst => ?sha1_range, fun hdst => ?sha256_range,
    fun hvalid => ?sha1_seq, fun hvalid => ?sha256_seq⟩
  case update_range =>
    exact ⟨exec_source_range hsrc ⟨rfl, rfl, nofun, nofun⟩, exec_source_range hsrc ⟨rfl, rfl, nofun, nofun⟩⟩
  case update_order =>
    obtain ⟨hseq1, hlong1⟩ := exec_sha1Update_errors hsrc
    obtain ⟨hseq2, hlong2⟩ := exec_sha256Update_errors hsrc
    exact ⟨hseq1, hseq2, hlong1, hlong2⟩
  case sha1_range => exact exec_of_rule_error_plain rfl rfl (by decide) (requireStore_stop _ hdst)
  case sha256_range => exact exec_of_rule_error_plain rfl rfl (by decide) (requireStore_stop _ hdst)
  case sha1_seq => exact ⟨exec_sha1Final_seq hvalid nofun, fun hdst => exec_sha1Final_seq hvalid fun _ => hdst⟩
  case sha256_seq => exact ⟨exec_sha256Final_seq hvalid nofun, fun hdst => exec_sha256Final_seq hvalid fun _ => hdst⟩

/-! ## FINAL and the one-shot command (41_sha1.md R122, R123) -/

/-- Settles O40: the rule's own effects, and the STORE write of the digest's bytes. -/
theorem sha1FinalReportsDigest : Obligations.Sha1FinalReportsDigest := by
  rintro s store h hvalid hdst rfl
  rw [← digestRegs5_bytesOfWords5]
  exact exec_of_rule_stores (opcode_sha1Final store) (sha1FinalRule_eq_ok.2 ⟨hdst, hvalid, rfl⟩)

/-- Settles O42, as O40 with the hash of the bytes that the range reads as. -/
theorem sha1OneShotResult : Obligations.Sha1OneShotResult := by
  rintro s store m h hsrc hdst hlen hm rfl
  rw [← digestRegs5_bytesOfWords5]
  exact exec_of_rule_stores (i := .sha1 store) (op := 0x04) (by cases store <;> rfl)
    (sha1Rule_eq_ok.2 ⟨hsrc, hdst, m, memRead_eq_some.2 ⟨hlen, hm⟩, rfl⟩)

/-! ## A stream from INIT to FINAL (41_sha1.md R119-R122, 42_sha256.md R132-R135) -/

section Stream

variable {s t : State}

/-- A successful UPDATE absorbs the bytes of its range, whichever they are. -/
theorem sha1Update_ctx1 {m : List Byte} (hlen : m.length = s.srcLen.toNat) (hm : Memory.holds s.mem s.srcOff.toNat m)
    (hx : exec .sha1Update s = .next t) (hok : t.status.errcode = .ok) : t.ctx1 = absorb compress1 s.ctx1 m := by
  obtain ⟨s', hr, rfl⟩ := rule_ok_of_errcode_ok rfl hx hok
  obtain ⟨-, -, -, m', hread, rfl⟩ := sha1UpdateRule_eq_ok.1 hr
  cases hread.symm.trans (memRead_eq_some.2 ⟨hlen, hm⟩)
  rfl

theorem sha256Update_ctx2 {m : List Byte} (hlen : m.length = s.srcLen.toNat) (hm : Memory.holds s.mem s.srcOff.toNat m)
    (hx : exec .sha256Update s = .next t) (hok : t.status.errcode = .ok) : t.ctx2 = absorb compress2 s.ctx2 m := by
  obtain ⟨s', hr, rfl⟩ := rule_ok_of_errcode_ok rfl hx hok
  obtain ⟨-, -, -, m', hread, rfl⟩ := sha256UpdateRule_eq_ok.1 hr
  cases hread.symm.trans (memRead_eq_some.2 ⟨hlen, hm⟩)
  rfl

theorem sha1Final_digest {store : Bool} (hx : exec (.sha1Final store) s = .next t) (hok : t.status.errcode = .ok) :
    t.digest = digestRegs5 (bytesOfWords5 (sha1StreamWords s)) ∧ t.ctx1.valid = false := by
  obtain ⟨s', hr, rfl⟩ := rule_ok_of_errcode_ok (opcode_sha1Final store) hx hok
  obtain ⟨-, -, rfl⟩ := sha1FinalRule_eq_ok.1 hr
  simp [HashCtx.cleared]

theorem sha256Final_digest {store : Bool} (hx : exec (.sha256Final store) s = .next t) (hok : t.status.errcode = .ok) :
    t.digest = digestRegs8 (bytesOfWords8 (sha256StreamWords s)) ∧ t.ctx2.valid = false := by
  obtain ⟨s', hr, rfl⟩ := rule_ok_of_errcode_ok (opcode_sha256Final store) hx hok
  obtain ⟨-, -, rfl⟩ := sha256FinalRule_eq_ok.1 hr
  simp [HashCtx.cleared]

/-- The stream of a context that absorbed `m` from INIT on ends in the one-shot digest of `m`. -/
theorem bytesOfWords5_sha1StreamWords {m : List Byte} (h : s.ctx1 = absorb compress1 (freshCtx sha1IV) m) :
    bytesOfWords5 (sha1StreamWords s) = sha1Digest m := by
  rw [sha1StreamWords, h, sha1Digest, hashWords]

theorem bytesOfWords8_sha256StreamWords {m : List Byte} (h : s.ctx2 = absorb compress2 (freshCtx sha256IV) m) :
    bytesOfWords8 (sha256StreamWords s) = sha256Digest m := by
  rw [sha256StreamWords, h, sha256Digest, hashWords]

end Stream

/-- Settles O44: the context is the fresh one, then has absorbed A, then B, which is to have absorbed A followed by B
(`absorb_append`). -/
theorem streamedHashIsOneShot : Obligations.StreamedHashIsOneShot := by
  refine ⟨?_, ?_⟩
  · intro s0 s1 u1 t1 u2 t2 u3 t3 a b store hinit hu1 halen ha hx1 hok1 hu2 hblen hb hx2 hok2 hu3 hx3 hok3
    have hs1 : s1.ctx1 = freshCtx sha1IV := by cases (initStartsStream s0).1.symm.trans hinit; rfl
    have hctx : u3.ctx1 = absorb compress1 (freshCtx sha1IV) (a ++ b) := by
      rw [hu3, sha1Update_ctx1 hblen hb hx2 hok2, hu2, sha1Update_ctx1 halen ha hx1 hok1, hu1, hs1, absorb_append]
    rw [← bytesOfWords5_sha1StreamWords hctx]
    exact sha1Final_digest hx3 hok3
  · intro s0 s1 u1 t1 u2 t2 u3 t3 a b store hinit hu1 halen ha hx1 hok1 hu2 hblen hb hx2 hok2 hu3 hx3 hok3
    have hs1 : s1.ctx2 = freshCtx sha256IV := by cases (initStartsStream s0).2.symm.trans hinit; rfl
    have hctx : u3.ctx2 = absorb compress2 (freshCtx sha256IV) (a ++ b) := by
      rw [hu3, sha256Update_ctx2 hblen hb hx2 hok2, hu2, sha256Update_ctx2 halen ha hx1 hok1, hu1, hs1, absorb_append]
    rw [← bytesOfWords8_sha256StreamWords hctx]
    exact sha256Final_digest hx3 hok3

end Sys2Proof.Machine
end

section
/-! SUPPORT. The obligations on the SHA-256 commands (O41, O43): FINAL and the one-shot command. -/

namespace Sys2Proof.Machine

section Sha256Digest

variable {s : State} {store : Bool}

/-- SHA256_FINAL past its checks: the digest registers hold the final words themselves (42_sha256.md R135, 10_state.md R39). -/
theorem rule_sha256Final_ok (hdst : store = true → s.dstOff.toNat + 32 ≤ s.cfg.msgbufSize) (hvalid : s.ctx2.valid = true) :
    rule (.sha256Final store) s = .ok (storeResult store (bytesOfWords8 (sha256StreamWords s))
      { s with digest := sha256StreamWords s, ctx2 := HashCtx.cleared Words8.zero }) :=
  sha256FinalRule_eq_ok.2 ⟨hdst, hvalid, by rw [digestRegs8_bytesOfWords8]⟩

/-- SHA256 past its checks: the digest registers hold the hash words of the bytes read (42_sha256.md R136, 10_state.md R39). -/
theorem rule_sha256_ok {m : List Byte} (hsrc : s.srcOff.toNat + s.srcLen.toNat ≤ s.cfg.msgbufSize)
    (hdst : store = true → s.dstOff.toNat + 32 ≤ s.cfg.msgbufSize) (hread : memRead s (srcRange s) = some m) :
    rule (.sha256 store) s =
      .ok (storeResult store (sha256Digest m) { s with digest := hashWords compress2 sha256IV m }) :=
  sha256Rule_eq_ok.2 ⟨hsrc, hdst, m, hread, by rw [sha256Digest, digestRegs8_bytesOfWords8]⟩

end Sha256Digest

/-- Settles O41: the rule's own effects, and the STORE write of the digest's bytes. -/
theorem sha256FinalReportsDigest : Obligations.Sha256FinalReportsDigest := by
  rintro s store h hvalid hdst rfl
  exact exec_of_rule_stores (opcode_sha256Final store) (rule_sha256Final_ok hdst hvalid)

/-- Settles O43, as O41 with the hash of the bytes that the range reads as. -/
theorem sha256OneShotResult : Obligations.Sha256OneShotResult := by
  rintro s store m h hsrc hdst hlen hm rfl
  have hop : (Instr.sha256 store).opcode = some 0x08 := by cases store <;> rfl
  exact exec_of_rule_stores hop (rule_sha256_ok hsrc hdst (memRead_eq_some.2 ⟨hlen, hm⟩))

end Sys2Proof.Machine
end

section
/-! SUPPORT. The obligations on the HMAC commands (O46, O47): the construction of 43_hmac.md R138 with K0 given as R139 words it, then each
command past its checks. -/

namespace Sys2Proof.Machine

section Construction

variable {hash : List Byte → List Byte} {kb k0 : List Byte} {pad : Nat}

/-- A hashed key is padded with as many zeros as its digest leaves of the 64 bytes (43_hmac.md R139). -/
theorem prepareKey_of_digest_length (hpad : (hash kb).length + pad = 64) :
    prepareKey hash kb =
      if 64 < kb.length then hash kb ++ List.replicate pad 0 else kb ++ List.replicate (64 - kb.length) 0 := by
  have hzeros : 64 - (hash kb).length = pad := by omega
  rw [prepareKey, hzeros]

/-- The construction with both pads written out over the prepared key (43_hmac.md R138). -/
theorem hmac_eq_of_prepareKey (h : prepareKey hash kb = k0) (m : List Byte) :
    hmac hash kb m = hash (k0.map (· ^^^ 0x5C) ++ hash (k0.map (· ^^^ 0x36) ++ m)) := by
  rw [hmac, h, xorPad, xorPad]

end Construction

section Commands

variable {s : State} {store : Bool} {m kb : List Byte}
  (hsrc : s.srcOff.toNat + s.srcLen.toNat ≤ s.cfg.msgbufSize) (hkey : s.keyOff.toNat + s.keyLen.toNat ≤ s.cfg.msgbufSize)
  (hm : memRead s (srcRange s) = some m) (hkb : memRead s (keyRange s) = some kb)

include hsrc hkey hm hkb

/-- HMAC_SHA1 past its checks: the digest registers hold the outer hash's words (43_hmac.md R140, 10_state.md R39). -/
theorem rule_hmacSha1_ok {h : Words5} (hdst : store = true → s.dstOff.toNat + 20 ≤ s.cfg.msgbufSize)
    (hdigest : hmac sha1Digest kb m = bytesOfWords5 h) :
    rule (.hmacSha1 store) s =
      .ok (storeResult store (bytesOfWords5 h) { s with digest := ⟨h.w0, h.w1, h.w2, h.w3, h.w4, 0, 0, 0⟩ }) :=
  hmacSha1Rule_eq_ok.2 ⟨hsrc, hkey, hdst, m, hm, kb, hkb, by rw [hdigest, digestRegs5_bytesOfWords5]⟩

/-- HMAC_SHA256 past its checks: the digest registers hold the outer hash's words (43_hmac.md R141, 10_state.md R39). -/
theorem rule_hmacSha256_ok {h : Words8} (hdst : store = true → s.dstOff.toNat + 32 ≤ s.cfg.msgbufSize)
    (hdigest : hmac sha256Digest kb m = bytesOfWords8 h) :
    rule (.hmacSha256 store) s = .ok (storeResult store (bytesOfWords8 h) { s with digest := h }) :=
  hmacSha256Rule_eq_ok.2 ⟨hsrc, hkey, hdst, m, hm, kb, hkb, by rw [hdigest, digestRegs8_bytesOfWords8]⟩

end Commands

/-- Settles O46: both ranges read as the message and the key, a SHA-1 digest leaves 44 of the key's 64 bytes to the zeros, and the
digest's bytes are the outer hash's words. -/
theorem hmacSha1Result : Obligations.HmacSha1Result := by
  rintro s store m kb k0 h hsrc hkey hdst hmlen hm hkblen hkb hk0 rfl
  have hop : (Instr.hmacSha1 store).opcode = some 0x09 := by cases store <;> rfl
  have hprep : prepareKey sha1Digest kb = k0 :=
    (prepareKey_of_digest_length (by rw [sha1Digest_length])).trans hk0.symm
  exact exec_of_rule_stores hop (rule_hmacSha1_ok hsrc hkey (memRead_eq_some.2 ⟨hmlen, hm⟩) (memRead_eq_some.2 ⟨hkblen, hkb⟩) hdst
    (hmac_eq_of_prepareKey hprep m))

/-- Settles O47, as O46 with the 32 bytes that a SHA-256 digest leaves. -/
theorem hmacSha256Result : Obligations.HmacSha256Result := by
  rintro s store m kb k0 h hsrc hkey hdst hmlen hm hkblen hkb hk0 rfl
  have hop : (Instr.hmacSha256 store).opcode = some 0x0A := by cases store <;> rfl
  have hprep : prepareKey sha256Digest kb = k0 :=
    (prepareKey_of_digest_length (by rw [sha256Digest_length])).trans hk0.symm
  exact exec_of_rule_stores hop (rule_hmacSha256_ok hsrc hkey (memRead_eq_some.2 ⟨hmlen, hm⟩) (memRead_eq_some.2 ⟨hkblen, hkb⟩) hdst
    (hmac_eq_of_prepareKey hprep m))

end Sys2Proof.Machine
end

section
/-! SUPPORT. The obligations on the STUN header (O52-O55): the fields of a header's bytes, what HDR_ENCODE writes, each answer of
HDR_DECODE by the first check that fails, and the two commands in turn. -/

namespace Sys2Proof.Machine

/-! ## Message-type bit fields (44_stun_header.md R143, R146) -/

/-- A word with no bit outside a mask is its own part under the mask. -/
theorem and_eq_self_of_and_not {n : Nat} {x k : BitVec n} (h : x &&& ~~~k = 0) : x &&& k = x :=
  calc x &&& k = (x &&& k) ||| (x &&& ~~~k) := by rw [h]; exact BitVec.or_zero.symm
    _ = x &&& (k ||| ~~~k) := BitVec.and_or_distrib_left.symm
    _ = x := by rw [BitVec.or_not_self, BitVec.and_allOnes]

/-- A word with no bit outside a mask keeps under another mask only the bits that both have. -/
theorem and_of_and_not {n : Nat} {x k : BitVec n} (h : x &&& ~~~k = 0) (j : BitVec n) : x &&& j = x &&& (k &&& j) := by
  rw [← BitVec.and_assoc, and_eq_self_of_and_not h]

theorem leadingBits_eq_zero_iff (t : Half) : t.extractLsb' 14 2 = 0 ↔ t.toNat < 0x4000 := by
  rw [← BitVec.toNat_inj, BitVec.extractLsb'_toNat, Nat.shiftRight_eq_div_pow]
  have hlt := t.isLt
  simp only [BitVec.ofNat_eq_ofNat, BitVec.toNat_ofNat]
  omega

/-- The mask 0x3FFF takes no bit of the class. -/
theorem positionedClass_messageType (c m : Half) : positionedClass (messageType c m) = (c ||| m) &&& 0x0110 := by
  rw [positionedClass, messageType, BitVec.and_comm 0x3FFF, BitVec.and_assoc]
  rfl

/-- The mask 0x3FFF takes no bit of the method. -/
theorem positionedMethod_messageType (c m : Half) : positionedMethod (messageType c m) = (c ||| m) &&& 0x3EEF := by
  rw [positionedMethod, messageType, BitVec.and_comm 0x3FFF, BitVec.and_assoc]
  rfl

section LegalFields

variable {c m : Half} (hc : c &&& ~~~0x0110 = 0) (hm : m &&& ~~~0x3EEF = 0)

include hc hm

/-- The method's mask shares no bit with the class's. -/
theorem class_of_legal : (c ||| m) &&& 0x0110 = c := by
  rw [BitVec.and_or_distrib_right, and_eq_self_of_and_not hc, and_of_and_not hm]
  exact (congrArg (c ||| ·) BitVec.and_zero).trans BitVec.or_zero

/-- The class's mask shares no bit with the method's. -/
theorem method_of_legal : (c ||| m) &&& 0x3EEF = m := by
  rw [BitVec.and_or_distrib_right, and_eq_self_of_and_not hm, and_of_and_not hc]
  exact (congrArg (· ||| m) BitVec.and_zero).trans BitVec.zero_or

/-- Both masks lie inside 0x3FFF. -/
theorem messageType_of_legal : messageType c m = c ||| m := by
  rw [messageType, BitVec.and_comm, BitVec.and_or_distrib_right, and_of_and_not hc, and_of_and_not hm]
  exact congrArg₂ (· ||| ·) (and_eq_self_of_and_not hc) (and_eq_self_of_and_not hm)

end LegalFields

/-! ## The fields of a header's bytes (44_stun_header.md R147, R148) -/

/-- A sequence inside a sequence. -/
theorem slice_slice (bs : List Byte) {i j a b : Nat} (h : i + b ≤ j) : slice (slice bs i j) a b = slice bs (i + a) (i + b) := by
  rw [slice, slice, slice, List.drop_take, List.drop_drop, List.take_take]
  congr 1
  omega

/-- TXIDk is word k of the last 12 header bytes. -/
theorem wordAt_headerTxid (h : List Byte) {k : Nat} (hk : k < 3) :
    wordAt (headerTxid h) k = be32 (slice h (8 + 4 * k) (8 + (4 * k + 4))) := by
  rw [wordAt, headerTxid, slice_slice h (by omega)]

section HeaderBytes

variable (s : State)

@[simp] theorem headerType_headerBytes : headerType (headerBytes s) = messageType s.hdrClass s.hdrMethod := be16_bytes16 _

@[simp] theorem headerLength_headerBytes : headerLength (headerBytes s) = s.hdrLength := be16_bytes16 _

@[simp] theorem headerCookie_headerBytes : headerCookie (headerBytes s) = magicCookie := be32_bytes32 _

@[simp] theorem headerTxid_headerBytes : headerTxid (headerBytes s) = txidBytes s := rfl

@[simp] theorem wordAt_txidBytes :
    wordAt (txidBytes s) 0 = s.txid0 ∧ wordAt (txidBytes s) 1 = s.txid1 ∧ wordAt (txidBytes s) 2 = s.txid2 :=
  ⟨be32_bytes32 _, be32_bytes32 _, be32_bytes32 _⟩

end HeaderBytes

/-! ## HDR_ENCODE (44_stun_header.md R147) -/

/-- The header bytes with the cookie's four written out (30_encoding.md R96). -/
theorem headerBytes_eq (s : State) :
    headerBytes s = bytes16 (messageType s.hdrClass s.hdrMethod) ++ bytes16 s.hdrLength ++ [0x21, 0x12, 0xA4, 0x42] ++
      bytes32 s.txid0 ++ bytes32 s.txid1 ++ bytes32 s.txid2 := by
  have hcookie : bytes32 magicCookie = [0x21, 0x12, 0xA4, 0x42] := by decide
  rw [headerBytes, txidBytes, hcookie]
  simp only [List.append_assoc]

/-- Settles O52: past the range check the rule is a store of the header bytes. -/
theorem hdrEncodeResult : Obligations.HdrEncodeResult := by
  rintro s type rfl
  refine ⟨fun hdst => ?_, fun hdst => exec_of_rule_error_plain rfl rfl (by decide) (requireRange_stop _ hdst)⟩
  have hx := exec_of_rule_stores (i := .hdrEncode) (op := 0x0E) (store := true) rfl (hdrEncodeRule_eq_ok.2 ⟨hdst, rfl⟩)
  rw [headerBytes_eq] at hx
  exact hx

/-! ## HDR_DECODE of a valid header (44_stun_header.md R149, R150) -/

section Decode

variable {s : State} {h : List Byte}

/-- HDR_DECODE where every check passes. -/
theorem exec_hdrDecode_valid (hsrc : s.srcOff.toNat + s.srcLen.toNat ≤ s.cfg.msgbufSize) (hread : memRead s (hdrSourceRange s) = some h)
    (htype : (headerType h).extractLsb' 14 2 = 0) (halign : (headerLength h).toNat % 4 = 0)
    (hlen : 20 + (headerLength h).toNat = s.srcLen.toNat) (hcookie : headerCookie h = magicCookie) :
    exec .hdrDecode s = .next (State.succeeded 0x0F { decodedHeader s h with status := setHdrValid true s.status }) :=
  exec_of_rule_ok rfl (hdrDecodeRule_eq_ok.2 ⟨hsrc, hlen ▸ Nat.le_add_right 20 _, h, hread, htype, halign, hlen, hcookie, rfl⟩)

/-- The registers of R150 in the words of R148, each field at its offset. -/
theorem decodedHeader_eq (hcookie : headerCookie h = magicCookie) :
    decodedHeader s h = { s with
      hdrType := be16 (slice h 0 2)
      hdrClass := be16 (slice h 0 2) &&& 0x0110
      hdrMethod := be16 (slice h 0 2) &&& 0x3EEF
      hdrLength := be16 (slice h 2 4)
      hdrCookie := 0x2112A442
      txid0 := be32 (slice h 8 12)
      txid1 := be32 (slice h 12 16)
      txid2 := be32 (slice h 16 20) } := by
  rw [decodedHeader, hcookie, wordAt_headerTxid h (by decide), wordAt_headerTxid h (by decide), wordAt_headerTxid h (by decide)]
  rfl

end Decode

/-- Settles O53: all checks pass, and the fields stand at their offsets. -/
theorem hdrDecodeResult : Obligations.HdrDecodeResult := by
  rintro s h type len hsrc hh hm rfl rfl htype halign hlen hcookie
  have hread : memRead s (hdrSourceRange s) = some h := memRead_eq_some.2 ⟨hh, hm⟩
  have hmagic : headerCookie h = magicCookie := by rw [headerCookie, hcookie]; decide
  rw [exec_hdrDecode_valid hsrc hread ((leadingBits_eq_zero_iff _).2 htype) halign hlen hmagic, decodedHeader_eq hmagic]
  rfl

/-! ## The checks of HDR_DECODE (44_stun_header.md R149) -/

theorem requireRange_eq_error {s : State} {r : MsgRange} {k : ExecResult} {code : ErrCode} :
    requireRange s r k = .error code ↔
      (s.cfg.msgbufSize < r.off + r.len ∧ .range = code) ∨ (r.off + r.len ≤ s.cfg.msgbufSize ∧ k = .error code) := by
  rw [requireRange, require_eq_error, inRange_iff, ← Bool.not_eq_true, inRange_iff, Nat.not_le]

/-- HDR_DECODE with an error: the first check that fails gives the code, and only the checks after the second read the header. -/
theorem hdrDecodeRule_eq_error {s : State} {code : ErrCode} :
    hdrDecodeRule s = .error code ↔
      (s.cfg.msgbufSize < s.srcOff.toNat + s.srcLen.toNat ∧ .range = code) ∨
      (s.srcOff.toNat + s.srcLen.toNat ≤ s.cfg.msgbufSize ∧
        ((s.srcLen.toNat < 20 ∧ .hdrShort = code) ∨
        (20 ≤ s.srcLen.toNat ∧ ∃ h, memRead s (hdrSourceRange s) = some h ∧
          ((0x4000 ≤ (headerType h).toNat ∧ .hdrLeadingBits = code) ∨
          ((headerType h).toNat < 0x4000 ∧
            (((headerLength h).toNat % 4 ≠ 0 ∧ .hdrLenAlign = code) ∨
            ((headerLength h).toNat % 4 = 0 ∧
              ((20 + (headerLength h).toNat ≠ s.srcLen.toNat ∧ .hdrLenMismatch = code) ∨
              (20 + (headerLength h).toNat = s.srcLen.toNat ∧ headerCookie h ≠ magicCookie ∧ .hdrCookie = code))))))))) := by
  simp only [hdrDecodeRule, requireRange_eq_error, require_eq_error, withBytes_eq_error, srcRange, decide_eq_true_eq,
    decide_eq_false_iff_not, beq_iff_eq, beq_eq_false_iff_ne, leadingBits_eq_zero_iff, Nat.not_le, Nat.not_lt, ne_eq, reduceCtorEq,
    and_false, or_false]

/-- Every failure sets HDR_VALID <- 0 and nothing else but the common completion fields (60_exceptions.md R165). -/
theorem exec_hdrDecode_error {s : State} {code : ErrCode} (hr : hdrDecodeRule s = .error code) :
    exec .hdrDecode s = .next (State.failed 0x0F code { s with status := { s.status with hdrValid := false } }) := by
  have hcode : code ≠ .ok := by
    rintro rfl
    exact hdrDecodeRule_ne_error_ok s hr
  exact exec_of_rule_error (i := .hdrDecode) rfl hcode hr

/-- Settles O54: each clause is one case of `hdrDecodeRule_eq_error`. -/
theorem hdrDecodeValidationOrder : Obligations.HdrDecodeValidationOrder := by
  rintro s z rfl hsrc
  refine ⟨fun hshort => ?short, fun h20 h type len hh hm htype hlen => ?content⟩
  case short => exact exec_hdrDecode_error (hdrDecodeRule_eq_error.2 (.inr ⟨hsrc, .inl ⟨hshort, rfl⟩⟩))
  case content =>
    subst htype hlen
    have hread : memRead s (hdrSourceRange s) = some h := memRead_eq_some.2 ⟨hh, hm⟩
    have hfails {code : ErrCode} hc :=
      exec_hdrDecode_error (code := code) (hdrDecodeRule_eq_error.2 (.inr ⟨hsrc, .inr ⟨h20, h, hread, hc⟩⟩))
    exact ⟨fun htype => hfails (.inl ⟨htype, rfl⟩),
      fun htype halign => hfails (.inr ⟨htype, .inl ⟨halign, rfl⟩⟩),
      fun htype halign hlen => hfails (.inr ⟨htype, .inr ⟨halign, .inl ⟨hlen, rfl⟩⟩⟩),
      fun htype halign hlen hcookie => hfails (.inr ⟨htype, .inr ⟨halign, .inr ⟨hlen, hcookie, rfl⟩⟩⟩)⟩

/-! ## Encode, then decode (44_stun_header.md R151) -/

/-- R151, item 1: what a successful HDR_DECODE has checked. -/
theorem hdrDecode_ok_checked {s t : State} (hx : exec .hdrDecode s = .next t) (hok : t.status.errcode = .ok) :
    s.srcLen.toNat = 20 + t.hdrLength.toNat ∧ s.srcLen.toNat % 4 = 0 ∧ t.hdrType.extractLsb' 14 2 = 0 ∧
      t.hdrCookie = magicCookie := by
  obtain ⟨s', hr, rfl⟩ := rule_ok_of_errcode_ok rfl hx hok
  obtain ⟨-, -, h, -, htype, halign, hlen, hcookie, rfl⟩ := hdrDecodeRule_eq_ok.1 hr
  exact ⟨hlen.symm, by omega, htype, hcookie⟩

/-- A successful HDR_ENCODE leaves its 20 bytes at DST_OFF. -/
theorem hdrEncode_ok_holds {s t : State} (hx : exec .hdrEncode s = .next t) (hok : t.status.errcode = .ok) :
    Memory.holds t.mem s.dstOff.toNat (headerBytes s) := by
  obtain ⟨s', hr, rfl⟩ := rule_ok_of_errcode_ok rfl hx hok
  obtain ⟨-, rfl⟩ := hdrEncodeRule_eq_ok.1 hr
  intro i hi
  rw [succeeded_mem, memWrite_mem, Memory.read_writeBytes, if_pos ⟨Nat.le_add_right _ _, Nat.add_lt_add_left hi _⟩,
    Nat.add_sub_cancel_left]

/-- HDR_DECODE over the header bytes of `s` answers the values that `s` had for them. -/
theorem exec_hdrDecode_headerBytes {s u : State} (halign : s.hdrLength.toNat % 4 = 0)
    (hlen : u.srcLen.toNat = 20 + s.hdrLength.toNat) (hsrc : u.srcOff.toNat + u.srcLen.toNat ≤ u.cfg.msgbufSize)
    (hread : memRead u (hdrSourceRange u) = some (headerBytes s)) :
    exec .hdrDecode u = .next (State.succeeded 0x0F { u with
      hdrType := messageType s.hdrClass s.hdrMethod
      hdrClass := (s.hdrClass ||| s.hdrMethod) &&& 0x0110
      hdrMethod := (s.hdrClass ||| s.hdrMethod) &&& 0x3EEF
      hdrLength := s.hdrLength
      hdrCookie := magicCookie
      txid0 := s.txid0
      txid1 := s.txid1
      txid2 := s.txid2
      status := setHdrValid true u.status }) := by
  rw [exec_hdrDecode_valid hsrc hread (by rw [headerType_headerBytes, messageType_leadingBits])
    (by rw [headerLength_headerBytes, halign]) (by rw [headerLength_headerBytes, hlen]) (headerCookie_headerBytes s)]
  simp [decodedHeader, positionedClass_messageType, positionedMethod_messageType]

/-- Settles O55: item 1 from the rule's checks; item 2 by decoding the bytes that HDR_ENCODE left, whose masks take nothing from a legal
class and method. -/
theorem headerRoundTrip : Obligations.HeaderRoundTrip := by
  refine ⟨fun s t => hdrDecode_ok_checked, fun s t u hx hok halign hoff hlen hsrc hkept => ?_⟩
  have hholds : Memory.holds u.mem u.srcOff.toNat (headerBytes s) := by
    intro i hi
    rw [hoff, hkept i hi, hdrEncode_ok_holds hx hok i hi]
  have hread : memRead u (hdrSourceRange u) = some (headerBytes s) := memRead_eq_some.2 ⟨headerBytes_length s, hholds⟩
  exact ⟨_, exec_hdrDecode_headerBytes halign hlen hsrc hread, rfl, rfl, rfl, rfl, rfl, rfl, rfl, rfl, rfl,
    fun hc hm => ⟨class_of_legal hc hm, method_of_legal hc hm, messageType_of_legal hc hm⟩⟩

end Sys2Proof.Machine
end

section
/-! SUPPORT. The obligations on the XOR-address commands (O56-O59): the key taken off again, what each command answers past its checks,
each error by the first check that fails, and the two commands in turn. -/

namespace Sys2Proof.Machine

/-! ## MSGBUF at the granularity of one byte (10_state.md R44) -/

theorem Memory.holds_cons {m : Memory} {off : Nat} {b : Byte} {bs : List Byte} :
    Memory.holds m off (b :: bs) ↔ Memory.read m off = some b ∧ Memory.holds m (off + 1) bs := by
  constructor
  · refine fun h => ⟨h 0 (Nat.zero_lt_succ _), fun i hi => ?_⟩
    rw [Nat.add_assoc, Nat.add_comm 1]
    exact h (i + 1) (Nat.succ_lt_succ hi)
  · rintro ⟨hb, hbs⟩ i hi
    cases i with
    | zero => exact hb
    | succ i =>
      rw [Nat.add_comm i, ← Nat.add_assoc, Nat.add_comm 1]
      exact hbs i (Nat.lt_of_succ_lt_succ hi)

theorem Memory.holds_writeBytes (m : Memory) (off : Nat) (bs : List Byte) : Memory.holds (Memory.writeBytes m off bs) off bs := by
  intro i hi
  rw [Memory.read_writeBytes, if_pos ⟨Nat.le_add_right _ _, Nat.add_lt_add_left hi _⟩, Nat.add_sub_cancel_left]

/-! ## The key put on and taken off (45_xor_address.md R153) -/

/-- What makes the round trip: the XOR with one key twice is no change. -/
theorem xorBytes_xorBytes {a k : List Byte} (h : a.length ≤ k.length) : xorBytes (xorBytes a k) k = a := by
  induction a generalizing k with
  | nil => rfl
  | cons x a ih =>
    cases k with
    | nil => exact absurd h (Nat.not_succ_le_zero _)
    | cons y k =>
      have hx : x ^^^ y ^^^ y = x := by rw [BitVec.xor_assoc, BitVec.xor_self, BitVec.xor_zero]
      exact congrArg₂ List.cons hx (ih (Nat.le_of_succ_le_succ h))

@[simp] theorem xport_xport (p : Half) (k : List Byte) : xport (xport p k) k = p := by
  rw [xport, xport, BitVec.xor_assoc, BitVec.xor_self, BitVec.xor_zero]

theorem xaddr_xaddr {a k : List Byte} {n : Nat} (ha : a.length = n) (hn : n ≤ k.length) : xaddr (xaddr a k n) k n = a :=
  xorBytes_xorBytes (by rw [slice_length k hn, ha, Nat.sub_zero])

theorem xaddr_length {a k : List Byte} {n : Nat} (ha : a.length = n) (hn : n ≤ k.length) : (xaddr a k n).length = n := by
  rw [xaddr, xorBytes, List.length_zipWith, slice_length k hn, ha, Nat.sub_zero, Nat.min_self]

/-! ## The two families (45_xor_address.md R153, R154) -/

theorem knownFamily_iff {f : Byte} : knownFamily f = true ↔ f = 1 ∨ f = 2 := by
  rw [knownFamily, Bool.or_eq_true, beq_iff_eq, beq_iff_eq]

theorem knownFamily_of_ne {f : Byte} (h1 : f ≠ 1) (h2 : f ≠ 2) : knownFamily f = false := by
  rw [← Bool.not_eq_true, knownFamily_iff]
  exact not_or.2 ⟨h1, h2⟩

theorem addressLen_le (f : Byte) : addressLen f ≤ 16 := by
  rcases addressLen_eq f with h | h <;> omega

/-- XA_LEN holds the value's length without loss (10_state.md R43). -/
theorem valueLen_toNat (f : Byte) : (BitVec.ofNat 8 (4 + addressLen f)).toNat = 4 + addressLen f := by
  have h := addressLen_le f
  rw [BitVec.toNat_ofNat]
  omega

theorem encodeAddress_length (s : State) : (encodeAddress s).length = addressLen s.xaFamily := by
  unfold encodeAddress addressLen
  split <;> rfl

/-- XA_ADDR0 is the first word of the address of either family. -/
theorem wordAt_encodeAddress_zero (s : State) : wordAt (encodeAddress s) 0 = s.xaAddr0 := by
  unfold encodeAddress
  split <;> exact be32_bytes32 _

/-- The other three words of an IPv6 address. -/
theorem wordAt_encodeAddress_ipv6 {s : State} (hf : s.xaFamily = 2) :
    wordAt (encodeAddress s) 1 = s.xaAddr1 ∧ wordAt (encodeAddress s) 2 = s.xaAddr2 ∧ wordAt (encodeAddress s) 3 = s.xaAddr3 := by
  rw [encodeAddress, hf]
  exact ⟨be32_bytes32 _, be32_bytes32 _, be32_bytes32 _⟩

/-! ## XADDR_ENCODE (45_xor_address.md R154) -/

/-- The operands as the statement on XADDR_ENCODE gives them, by family. -/
theorem address_cases {s : State} {n : Nat} {addr : List Byte}
    (h : (s.xaFamily = 1 ∧ n = 4 ∧ addr = bytes32 s.xaAddr0) ∨
      (s.xaFamily = 2 ∧ n = 16 ∧ addr = bytes32 s.xaAddr0 ++ bytes32 s.xaAddr1 ++ bytes32 s.xaAddr2 ++ bytes32 s.xaAddr3)) :
    knownFamily s.xaFamily = true ∧ n = addressLen s.xaFamily ∧ addr = encodeAddress s := by
  unfold encodeAddress
  rcases h with ⟨hf, rfl, rfl⟩ | ⟨hf, rfl, rfl⟩ <;> rw [hf] <;> exact ⟨rfl, rfl, rfl⟩

/-- Settles O56: past its checks the rule is a store of the value `xorValue`. -/
theorem xaddrEncodeResult : Obligations.XaddrEncodeResult := by
  intro s k addr n hfamily hhdr hdst hk hm
  obtain ⟨hknown, rfl, rfl⟩ := address_cases hfamily
  have hread : memRead s (hdrKeyRange s) = some k := memRead_eq_some.2 ⟨hk, hm⟩
  exact exec_of_rule_stores (i := .xaddrEncode) (store := true) rfl
    (xaddrEncodeRule_eq_ok.2 ⟨hknown, hhdr, Nat.add_assoc _ _ _ ▸ hdst, k, hread, rfl⟩)

/-- What a successful XADDR_ENCODE has checked and read, and what it leaves. -/
theorem xaddrEncode_ok {s t : State} (hx : exec .xaddrEncode s = .next t) (hok : t.status.errcode = .ok) :
    knownFamily s.xaFamily = true ∧ s.hdrOff.toNat + 4 + 16 ≤ s.cfg.msgbufSize ∧
      s.dstOff.toNat + (4 + addressLen s.xaFamily) ≤ s.cfg.msgbufSize ∧ t.xaLen = BitVec.ofNat 8 (4 + addressLen s.xaFamily) ∧
      ∃ k, memRead s (hdrKeyRange s) = some k ∧ Memory.holds t.mem s.dstOff.toNat (xorValue s k) := by
  obtain ⟨s', hr, rfl⟩ := rule_ok_of_errcode_ok rfl hx hok
  obtain ⟨hknown, hhdr, hdst, k, hread, rfl⟩ := xaddrEncodeRule_eq_ok.1 hr
  exact ⟨hknown, hhdr, hdst, rfl, k, hread, Memory.holds_writeBytes _ _ _⟩

/-! ## XADDR_DECODE (45_xor_address.md R155) -/

theorem memRead_familyByteRange {s : State} {f : Byte} (h : Memory.read s.mem (s.srcOff.toNat + 1) = some f) :
    memRead s (familyByteRange s) = some [f] :=
  memRead_eq_some.2 ⟨rfl, Memory.holds_cons.2 ⟨h, nofun⟩⟩

/-- XADDR_DECODE where every check passes; nothing is asked of the reserved byte at SRC_OFF. -/
theorem exec_xaddrDecode_ok {s : State} {f : Byte} {v k : List Byte} (hf : knownFamily f = true)
    (hsrc : s.srcOff.toNat + s.srcLen.toNat ≤ s.cfg.msgbufSize) (hhdr : s.hdrOff.toNat + 4 + 16 ≤ s.cfg.msgbufSize)
    (hlen : s.srcLen.toNat = 4 + addressLen f) (hv : v.length = 2 + addressLen f)
    (hvalue : Memory.holds s.mem (s.srcOff.toNat + 1) (f :: v)) (hkey : memRead s (hdrKeyRange s) = some k) :
    exec .xaddrDecode s = .next ((decodedAddress s f v k).succeeded 0x11) := by
  obtain ⟨hfb, hrest⟩ := Memory.holds_cons.1 hvalue
  have hread : memRead s (portAddressRange s (addressLen f)) = some v := memRead_eq_some.2 ⟨hv, hrest⟩
  exact exec_of_rule_ok rfl (xaddrDecodeRule_eq_ok.2
    ⟨hsrc, hhdr, hlen ▸ Nat.le_add_right 4 _, [f], memRead_familyByteRange hfb, hf, hlen, v, hread, k, hkey, rfl⟩)

/-- The address bytes end the value, so that the slice R155 takes is all after the port. -/
theorem slice_address {v : List Byte} {n : Nat} (hv : v.length = 2 + n) : slice v 2 (2 + n) = v.drop 2 := by
  rw [slice, List.take_of_length_le]
  rw [List.length_drop, hv]

/-- Settles O57: every check passes, and the registers are those of `decodedAddress`. -/
theorem xaddrDecodeResult : Obligations.XaddrDecodeResult := by
  rintro s f v k a n hfamily hsrc hhdr hlen hv hk hvalue hkey rfl
  obtain ⟨hknown, rfl⟩ := family_cases hfamily
  rw [exec_xaddrDecode_ok hknown hsrc hhdr hlen hv hvalue (memRead_eq_some.2 ⟨hk, hkey⟩), decodedAddress, slice_address hv]
  rfl

/-! ## The checks in their order (45_xor_address.md R154, R155) -/

/-- XADDR_ENCODE with an error: the first check that fails gives the code. -/
theorem xaddrEncodeRule_eq_error {s : State} {code : ErrCode} :
    xaddrEncodeRule s = .error code ↔
      (knownFamily s.xaFamily = false ∧ .xaFamily = code) ∨
      (knownFamily s.xaFamily = true ∧
        ((s.cfg.msgbufSize < s.hdrOff.toNat + 4 + 16 ∧ .range = code) ∨
        (s.hdrOff.toNat + 4 + 16 ≤ s.cfg.msgbufSize ∧
          s.cfg.msgbufSize < s.dstOff.toNat + (4 + addressLen s.xaFamily) ∧ .range = code))) := by
  simp only [xaddrEncodeRule, require_eq_error, requireRange_eq_error, withBytes_eq_error, hdrKeyRange, dstRange, reduceCtorEq,
    and_false, exists_false, or_false]

/-- XADDR_DECODE with an error: the first check that fails gives the code, and only the checks after the third read the family byte. -/
theorem xaddrDecodeRule_eq_error {s : State} {code : ErrCode} :
    xaddrDecodeRule s = .error code ↔
      (s.cfg.msgbufSize < s.srcOff.toNat + s.srcLen.toNat ∧ .range = code) ∨
      (s.srcOff.toNat + s.srcLen.toNat ≤ s.cfg.msgbufSize ∧
        ((s.cfg.msgbufSize < s.hdrOff.toNat + 4 + 16 ∧ .range = code) ∨
        (s.hdrOff.toNat + 4 + 16 ≤ s.cfg.msgbufSize ∧
          ((s.srcLen.toNat < 4 ∧ .xaLength = code) ∨
          (4 ≤ s.srcLen.toNat ∧ ∃ fb, memRead s (familyByteRange s) = some fb ∧
            ((knownFamily (byteAt fb 0) = false ∧ .xaFamily = code) ∨
            (knownFamily (byteAt fb 0) = true ∧ s.srcLen.toNat ≠ 4 + addressLen (byteAt fb 0) ∧ .xaLength = code))))))) := by
  simp only [xaddrDecodeRule, requireRange_eq_error, require_eq_error, withBytes_eq_error, srcRange, hdrKeyRange, decide_eq_true_eq,
    decide_eq_false_iff_not, Nat.not_le, ne_eq, reduceCtorEq, and_false, exists_false, or_false]

theorem exec_xaddrEncode_error {s : State} {code : ErrCode} (hr : xaddrEncodeRule s = .error code) :
    exec .xaddrEncode s = .next (s.failed 0x10 code) := by
  have hcode : code ≠ .ok := by
    rintro rfl
    exact xaddrEncodeRule_ne_error_ok s hr
  exact exec_of_rule_error_plain rfl rfl hcode hr

theorem exec_xaddrDecode_error {s : State} {code : ErrCode} (hr : xaddrDecodeRule s = .error code) :
    exec .xaddrDecode s = .next (s.failed 0x11 code) := by
  have hcode : code ≠ .ok := by
    rintro rfl
    exact xaddrDecodeRule_ne_error_ok s hr
  exact exec_of_rule_error_plain rfl rfl hcode hr

/-- The lengths 8 and 20 of R154 as one sum. -/
theorem valueLen_of_family (f : Byte) : (if f = 1 then 8 else 20) = 4 + addressLen f := by
  unfold addressLen
  split <;> rfl

/-- A length that is neither family's own (R155). -/
theorem known_and_other_length {f : Byte} {len : Nat} (h : (f = 1 ∧ len ≠ 8) ∨ (f = 2 ∧ len ≠ 20)) :
    knownFamily f = true ∧ len ≠ 4 + addressLen f := by
  rcases h with ⟨rfl, hlen⟩ | ⟨rfl, hlen⟩ <;> exact ⟨rfl, hlen⟩

/-- Settles O58: each clause is one case of `xaddrEncodeRule_eq_error` or `xaddrDecodeRule_eq_error`. -/
theorem xaddrErrorsInOrder : Obligations.XaddrErrorsInOrder := by
  refine fun s => ⟨fun h1 h2 => ?family, fun hf => ?encode_ranges, fun hsrc => ⟨fun hhdr => ?key_range, fun hhdr => ⟨fun hshort => ?short,
    fun h4 f hfb => ?content⟩⟩⟩
  case family => exact exec_xaddrEncode_error (xaddrEncodeRule_eq_error.2 (.inl ⟨knownFamily_of_ne h1 h2, rfl⟩))
  case encode_ranges =>
    have hknown := knownFamily_iff.2 hf
    rw [valueLen_of_family]
    exact ⟨fun hhdr => exec_xaddrEncode_error (xaddrEncodeRule_eq_error.2 (.inr ⟨hknown, .inl ⟨hhdr, rfl⟩⟩)),
      fun hhdr hdst => exec_xaddrEncode_error (xaddrEncodeRule_eq_error.2 (.inr ⟨hknown, .inr ⟨hhdr, hdst, rfl⟩⟩))⟩
  case key_range => exact exec_xaddrDecode_error (xaddrDecodeRule_eq_error.2 (.inr ⟨hsrc, .inl ⟨hhdr, rfl⟩⟩))
  case short =>
    exact exec_xaddrDecode_error (xaddrDecodeRule_eq_error.2 (.inr ⟨hsrc, .inr ⟨hhdr, .inl ⟨hshort, rfl⟩⟩⟩))
  case content =>
    have hfails {code : ErrCode} hc := exec_xaddrDecode_error (code := code)
      (xaddrDecodeRule_eq_error.2 (.inr ⟨hsrc, .inr ⟨hhdr, .inr ⟨h4, [f], memRead_familyByteRange hfb, hc⟩⟩⟩))
    refine ⟨fun h1 h2 => hfails (.inl ⟨knownFamily_of_ne h1 h2, rfl⟩), fun hother => ?_⟩
    obtain ⟨hknown, hlen⟩ := known_and_other_length hother
    exact hfails (.inr ⟨hknown, hlen, rfl⟩)

/-! ## Encode, then decode (45_xor_address.md R156) -/

/-- What `xorValue` writes after the family byte. -/
def xorPortAddress (s : State) (k : List Byte) : List Byte :=
  bytes16 (xport s.xaPort k) ++ xaddr (encodeAddress s) k (addressLen s.xaFamily)

theorem xorValue_eq (s : State) (k : List Byte) : xorValue s k = 0x00 :: s.xaFamily :: xorPortAddress s k := rfl

section RoundTrip

variable {s : State} {k : List Byte} (hk : k.length = 16)

include hk

theorem xorPortAddress_length : (xorPortAddress s k).length = 2 + addressLen s.xaFamily := by
  rw [xorPortAddress, List.length_append, bytes16_length,
    xaddr_length (encodeAddress_length s) (hk ▸ addressLen_le s.xaFamily)]

/-- Decoding what `s` has encoded, with the same key: port and address are those of `s`. -/
theorem decodedAddress_xorPortAddress (u : State) :
    decodedAddress u s.xaFamily (xorPortAddress s k) k = { u with
      xaFamily := s.xaFamily
      xaPort := s.xaPort
      xaLen := BitVec.ofNat 8 (4 + addressLen s.xaFamily)
      xaAddr0 := s.xaAddr0
      xaAddr1 := if s.xaFamily = 2 then wordAt (encodeAddress s) 1 else 0
      xaAddr2 := if s.xaFamily = 2 then wordAt (encodeAddress s) 2 else 0
      xaAddr3 := if s.xaFamily = 2 then wordAt (encodeAddress s) 3 else 0 } := by
  have hport : be16 (slice (xorPortAddress s k) 0 2) = xport s.xaPort k := be16_bytes16 _
  have haddr : xaddr (slice (xorPortAddress s k) 2 (2 + addressLen s.xaFamily)) k (addressLen s.xaFamily) = encodeAddress s := by
    rw [slice_address (xorPortAddress_length hk)]
    exact xaddr_xaddr (encodeAddress_length s) (hk ▸ addressLen_le s.xaFamily)
  rw [decodedAddress, hport, haddr, xport_xport, wordAt_encodeAddress_zero]

/-- XADDR_DECODE over the value that `s` has encoded, with the same key, answers the operands of `s`. -/
theorem exec_xaddrDecode_xorValue {u : State} (hknown : knownFamily s.xaFamily = true)
    (hsrc : u.srcOff.toNat + u.srcLen.toNat ≤ u.cfg.msgbufSize) (hhdr : u.hdrOff.toNat + 4 + 16 ≤ u.cfg.msgbufSize)
    (hlen : u.srcLen.toNat = 4 + addressLen s.xaFamily) (hvalue : Memory.holds u.mem u.srcOff.toNat (xorValue s k))
    (hkey : memRead u (hdrKeyRange u) = some k) :
    exec .xaddrDecode u = .next (State.succeeded 0x11 { u with
      xaFamily := s.xaFamily
      xaPort := s.xaPort
      xaLen := BitVec.ofNat 8 (4 + addressLen s.xaFamily)
      xaAddr0 := s.xaAddr0
      xaAddr1 := if s.xaFamily = 2 then wordAt (encodeAddress s) 1 else 0
      xaAddr2 := if s.xaFamily = 2 then wordAt (encodeAddress s) 2 else 0
      xaAddr3 := if s.xaFamily = 2 then wordAt (encodeAddress s) 3 else 0 }) := by
  rw [xorValue_eq] at hvalue
  obtain ⟨-, hfamilyOn⟩ := Memory.holds_cons.1 hvalue
  rw [exec_xaddrDecode_ok hknown hsrc hhdr hlen (xorPortAddress_length hk) hfamilyOn hkey, decodedAddress_xorPortAddress hk]

end RoundTrip

/-- Settles O59: the key and the value read in `u` as XADDR_ENCODE read and wrote them, and the key takes itself off
(`exec_xaddrDecode_xorValue`). -/
theorem xorAddressRoundTrip : Obligations.XorAddressRoundTrip := by
  intro s t u hx hok hcfg hhdrOff hsrcOff hsrcLen hkeyKept hvalueKept
  obtain ⟨hknown, hhdr, hdst, hxaLen, k, hkey, hvalue⟩ := xaddrEncode_ok hx hok
  obtain ⟨(hk : k.length = 16), hkeyBytes⟩ := memRead_eq_some.1 hkey
  have hlen : t.xaLen.toNat = 4 + addressLen s.xaFamily := hxaLen ▸ valueLen_toNat s.xaFamily
  have hlenU : u.srcLen.toNat = 4 + addressLen s.xaFamily := by
    rw [hsrcLen, BitVec.toNat_setWidth_of_le (by decide), hlen]
  have hkeyU : memRead u (hdrKeyRange u) = some k := by
    refine memRead_eq_some.2 ⟨hk, fun i hi => ?_⟩
    rw [hdrKeyRange, hhdrOff, hkeyKept i (hk ▸ hi)]
    exact hkeyBytes i hi
  have hvalueU : Memory.holds u.mem u.srcOff.toNat (xorValue s k) := by
    intro i hi
    rw [hsrcOff, hvalueKept i (hlen ▸ hi.trans_le (xorValue_length_le s k)), hvalue i hi]
  refine ⟨_, exec_xaddrDecode_xorValue hk hknown (by rwa [hsrcOff, hlenU, hcfg]) (by rwa [hhdrOff, hcfg]) hlenU hvalueU hkeyU,
    rfl, rfl, rfl, rfl, fun hf => ?ipv6, fun hf => ?ipv4⟩
  case ipv6 =>
    simp only [succeeded_xaAddr1, succeeded_xaAddr2, succeeded_xaAddr3, if_pos hf]
    exact wordAt_encodeAddress_ipv6 hf
  case ipv4 =>
    have hne : s.xaFamily ≠ 2 := by rw [hf]; decide
    simp only [succeeded_xaAddr1, succeeded_xaAddr2, succeeded_xaAddr3, if_neg hne, and_self]

end Sys2Proof.Machine
end

section
/-! SUPPORT. The obligations on CRC32, FINGERPRINT and FP_VERIFY (O48-O51): CRC injectivity, the messages that FP_VERIFY matches, and each
command past its checks. -/

namespace Sys2Proof.Machine

/-! ## MSGBUF at the granularity of a range (10_state.md R44) -/

section Ranges

variable {m m' : Memory} {off dst : Nat} {as bs : List Byte}

theorem Memory.holds_append : Memory.holds m off (as ++ bs) ↔ Memory.holds m off as ∧ Memory.holds m (off + as.length) bs := by
  induction as generalizing off with
  | nil => simp [Memory.holds]
  | cons a as ih =>
    rw [List.cons_append, Memory.holds_cons, Memory.holds_cons, ih, List.length_cons, and_assoc, Nat.add_assoc, Nat.add_comm 1]

/-- A store reads back what it wrote. -/
theorem Memory.afterStore.holds_stored (h : Memory.afterStore m' m true off bs) : Memory.holds m' off bs := by
  intro i hi
  rw [h, if_pos ⟨rfl, Nat.le_add_right _ _, Nat.add_lt_add_left hi _⟩, Nat.add_sub_cancel_left]

/-- A store leaves the bytes below its destination. -/
theorem Memory.afterStore.holds_below {store : Bool} (h : Memory.afterStore m' m store dst bs) (hbelow : off + as.length ≤ dst)
    (has : Memory.holds m off as) : Memory.holds m' off as := by
  intro i hi
  rw [h, if_neg (by omega), has i hi]

end Ranges

/-! ## Four bytes and their word (00_scope.md R10) -/

theorem bytes32_injective : Function.Injective bytes32 :=
  Function.LeftInverse.injective be32_bytes32

theorem bytes32_be32 {bs : List Byte} (h : bs.length = 4) : bytes32 (be32 bs) = bs := by
  match bs, h with
  | [a, b, c, d], _ =>
    have hword := be32_toNat [a, b, c, d]
    simp only [byteAt, List.getD_cons_zero, List.getD_cons_succ] at hword
    simp only [bytes32, List.cons.injEq, and_true]
    refine ⟨?_, ?_, ?_, ?_⟩ <;> apply BitVec.eq_of_toNat_eq <;>
      rw [BitVec.extractLsb'_toNat, hword, Nat.shiftRight_eq_div_pow] <;> omega

theorem be32_eq_iff {bs : List Byte} {v : Word} (h : bs.length = 4) : be32 bs = v ↔ bs = bytes32 v := by
  rw [← bytes32_injective.eq_iff, bytes32_be32 h]

/-! ## CRC32 is injective in each of its bytes (46_crc32.md R157) -/

/-- The bit shifted out decides the top bit of the result: the polynomial has its top bit set. -/
theorem crcBit_msb (c : Word) : (crcBit c).getLsbD 31 = c.getLsbD 0 := by
  rw [crcBit]
  split <;> simp_all

theorem crcBit_injective : Function.Injective crcBit := by
  intro c d h
  have hbit : c.getLsbD 0 = d.getLsbD 0 := by rw [← crcBit_msb, ← crcBit_msb, h]
  have hshift : c >>> 1 = d >>> 1 := by
    rw [crcBit, crcBit, hbit] at h
    split at h
    · exact (BitVec.xor_left_inj _).1 h
    · exact h
  refine BitVec.eq_of_getLsbD_eq fun i hi => ?_
  cases i with
  | zero => exact hbit
  | succ i => simpa [Nat.add_comm 1] using congrArg (·.getLsbD i) hshift

theorem crcBits_injective (k : Nat) : Function.Injective (crcBits k) := by
  induction k with
  | zero => exact Function.injective_id
  | succ k ih => exact ih.comp crcBit_injective

theorem crcByte_left_inj {c d : Word} (x : Byte) : crcByte c x = crcByte d x ↔ c = d := by
  rw [crcByte, crcByte, (crcBits_injective 8).eq_iff, BitVec.xor_left_inj]

theorem crcByte_right_inj (c : Word) {x y : Byte} : crcByte c x = crcByte c y ↔ x = y := by
  rw [crcByte, crcByte, (crcBits_injective 8).eq_iff, BitVec.xor_right_inj]
  refine ⟨fun h => ?_, congrArg _⟩
  have hbyte := congrArg (BitVec.setWidth 8) h
  rwa [BitVec.setWidth_setWidth_of_le _ (by decide), BitVec.setWidth_setWidth_of_le _ (by decide), BitVec.setWidth_eq,
    BitVec.setWidth_eq] at hbyte

/-- The bytes that follow never bring two CRC registers together. -/
theorem foldl_crcByte_inj {c d : Word} (m : List Byte) : m.foldl crcByte c = m.foldl crcByte d ↔ c = d := by
  induction m generalizing c d with
  | nil => rfl
  | cons x m ih => rw [List.foldl_cons, List.foldl_cons, ih, crcByte_left_inj]

/-- Two messages that differ in one byte at most have one CRC only if they are the same. -/
theorem crc32_middle_inj (a b : List Byte) {x y : Byte} : crc32 (a ++ x :: b) = crc32 (a ++ y :: b) ↔ x = y := by
  simp only [crc32, BitVec.xor_left_inj, List.foldl_append, List.foldl_cons, foldl_crcByte_inj, crcByte_right_inj]

theorem byteAt_eq_getElem {bs : List Byte} {i : Nat} (h : i < bs.length) : byteAt bs i = bs[i] := by
  simp [byteAt, h]

theorem fingerprintValue_set_inj {m : List Byte} {i : Nat} {y : Byte} (hi : i < m.length) :
    fingerprintValue (m.set i y) = fingerprintValue m ↔ y = byteAt m i := by
  have hm : m.take i ++ byteAt m i :: m.drop (i + 1) = m := by
    rw [byteAt_eq_getElem hi, List.getElem_cons_drop, List.take_append_drop]
  have hset : m.set i y = m.take i ++ y :: m.drop (i + 1) := by rw [List.set_eq_take_append_cons_drop, if_pos hi]
  have hcrc := crc32_middle_inj (m.take i) (m.drop (i + 1)) (x := y) (y := byteAt m i)
  rwa [hm, ← hset, ← BitVec.xor_left_inj fingerprintXor] at hcrc

/-! ## The messages that FP_VERIFY matches (46_crc32.md R161) -/

theorem slice_append_middle {a b : List Byte} (c : List Byte) {i j : Nat} (hi : i = a.length) (hj : j = a.length + b.length) :
    slice (a ++ b ++ c) i j = b := by
  subst hi hj
  rw [slice, List.append_assoc, List.drop_left, Nat.add_sub_cancel_left, List.take_left]

section Trailer

variable {body tl stored : List Byte} (htl : tl.length = 4) (hstored : stored.length = 4)

include htl hstored

theorem fpRecomputed_append : fpRecomputed (body ++ tl ++ stored) = fingerprintValue body := by
  have hlen : (body ++ tl ++ stored).length = body.length + 8 := by simp [htl, hstored]
  rw [fpRecomputed, hlen, Nat.add_sub_cancel, List.append_assoc]
  exact congrArg fingerprintValue (slice_append_middle (a := []) _ rfl (Nat.zero_add _).symm)

theorem fpMatches_append :
    fpMatches (body ++ tl ++ stored) = decide (tl = fingerprintTL ∧ be32 stored = fingerprintValue body) := by
  have hlen : (body ++ tl ++ stored).length = body.length + 8 := by simp [htl, hstored]
  have htype : slice (body ++ tl ++ stored) (body.length + 8 - 8) (body.length + 8 - 4) = tl :=
    slice_append_middle stored (by omega) (by omega)
  have hvalue : slice (body ++ tl ++ stored ++ []) (body.length + 8 - 4) (body.length + 8) = stored :=
    slice_append_middle [] (by simp [htl]) (by simp [htl, hstored])
  rw [List.append_nil] at hvalue
  rw [fpMatches, fpRecomputed_append htl hstored, hlen, htype, hvalue, Bool.decide_and, beq_eq_decide, beq_eq_decide]

end Trailer

/-- A message with its FINGERPRINT attribute (46_crc32.md R160). -/
def signedMessage (body : List Byte) : List Byte := body ++ fingerprintTL ++ bytes32 (fingerprintValue body)

theorem signedMessage_length (body : List Byte) : (signedMessage body).length = body.length + 8 := by
  simp [signedMessage, fingerprintTL]

/-- FP_VERIFY matches the signed messages and no others. -/
theorem fpMatches_iff {m : List Byte} (h8 : 8 ≤ m.length) : fpMatches m = true ↔ ∃ body, m = signedMessage body := by
  constructor
  · intro h
    obtain ⟨body, trailer, rfl, htrailer⟩ : ∃ body trailer, m = body ++ trailer ∧ trailer.length = 8 :=
      ⟨m.take (m.length - 8), m.drop (m.length - 8), (List.take_append_drop _ m).symm, by rw [List.length_drop]; omega⟩
    have htl : (trailer.take 4).length = 4 := by rw [List.length_take]; omega
    have hstored : (trailer.drop 4).length = 4 := by rw [List.length_drop]; omega
    rw [← List.take_append_drop 4 trailer, ← List.append_assoc, fpMatches_append htl hstored, decide_eq_true_eq,
      be32_eq_iff hstored] at h
    obtain ⟨htype, hvalue⟩ := h
    exact ⟨body, by rw [signedMessage, ← htype, ← hvalue, List.append_assoc, List.take_append_drop]⟩
  · rintro ⟨body, rfl⟩
    rw [signedMessage, fpMatches_append rfl rfl, be32_bytes32, decide_eq_true_eq]
    exact ⟨rfl, rfl⟩

/-- One byte set in a signed message gives a signed message only where it was that byte before: in the body by the injectivity of the
CRC, in the attribute since the body alone says what the attribute is. -/
theorem eq_byteAt_of_set_signedMessage {body body' : List Byte} {i : Nat} {y : Byte} (hi : i < (signedMessage body).length)
    (h : (signedMessage body).set i y = signedMessage body') : y = byteAt (signedMessage body) i := by
  have hlen : body.length = body'.length := by
    have hset := congrArg List.length h
    rw [List.length_set, signedMessage_length, signedMessage_length] at hset
    omega
  have hparts := h
  rw [signedMessage, signedMessage, List.append_assoc, List.append_assoc] at hparts
  by_cases hbody : i < body.length
  · rw [List.set_append_left _ _ hbody] at hparts
    obtain ⟨rfl, hattr⟩ := List.append_inj hparts (by rw [List.length_set, hlen])
    have hvalue := bytes32_injective (List.append_cancel_left hattr)
    rw [(fingerprintValue_set_inj hbody).1 hvalue.symm, byteAt, byteAt, signedMessage, List.append_assoc,
      List.getD_append _ _ _ _ hbody]
  · rw [List.set_append_right _ _ (Nat.not_lt.1 hbody)] at hparts
    obtain ⟨rfl, -⟩ := List.append_inj hparts hlen
    have hbyte : byteAt ((signedMessage body).set i y) i = y := by simp [byteAt, hi]
    rw [← hbyte, h]

/-! ## CRC32 and FINGERPRINT (46_crc32.md R159, R160) -/

/-- Settles O48: the range reads as its bytes, and each rule ends with the STORE write of the value in CRC_OUT. -/
theorem crcCommandsResult : Obligations.CrcCommandsResult := by
  intro s store m hsrc hdst hlen hm
  have hread : memRead s (srcRange s) = some m := memRead_eq_some.2 ⟨hlen, hm⟩
  have hopCrc : (Instr.crc32 store).opcode = some 0x0B := by cases store <;> rfl
  have hopFp : (Instr.fingerprint store).opcode = some 0x0C := by cases store <;> rfl
  exact ⟨exec_of_rule_stores hopCrc (crc32Rule_eq_ok.2 ⟨hsrc, hdst, m, hread, rfl⟩),
    exec_of_rule_stores hopFp (fingerprintRule_eq_ok.2 ⟨hsrc, hdst, m, hread, rfl⟩)⟩

/-! ## FP_VERIFY (46_crc32.md R161) -/

/-- FP_VERIFY where every check passes. -/
theorem exec_fpVerify_ok {s : State} {m : List Byte} (hsrc : s.srcOff.toNat + s.srcLen.toNat ≤ s.cfg.msgbufSize)
    (h8 : 8 ≤ s.srcLen.toNat) (hlen : m.length = s.srcLen.toNat) (hm : Memory.holds s.mem s.srcOff.toNat m) :
    exec .fpVerify s = .next (State.succeeded 0x0D
      { s with crcOut := fpRecomputed m, status := setFpMatch (fpMatches m) s.status }) :=
  exec_of_rule_ok rfl (fpVerifyRule_eq_ok.2 ⟨hsrc, h8, m, memRead_eq_some.2 ⟨hlen, hm⟩, rfl⟩)

/-- Settles O49: the message's parts give both values, and the length check stops a short range. -/
theorem fpVerifyResult : Obligations.FpVerifyResult := by
  refine fun s hsrc => ⟨fun body tl stored htl hstored hlen hm => ?_, fun hshort => ?_⟩
  · have hmlen : (body ++ tl ++ stored).length = s.srcLen.toNat := by
      simp only [List.length_append]
      omega
    rw [exec_fpVerify_ok hsrc (by omega) hmlen hm, fpRecomputed_append htl hstored, fpMatches_append htl hstored]
    rfl
  · have hr : rule .fpVerify s = .error .fpShort :=
      (requireRange_pass _ hsrc).trans (require_stop _ _ (decide_eq_false (Nat.not_le.2 hshort)))
    exact exec_of_rule_error rfl (by decide) hr

/-- FP_MATCH = 1 says that the range held a signed message: every failure sets it to 0 (10_state.md R34). -/
theorem signedMessage_of_fpMatch {s t : State} {m : List Byte} (hlen : m.length = s.srcLen.toNat)
    (hm : Memory.holds s.mem s.srcOff.toNat m) (hx : exec .fpVerify s = .next t) (hmatch : t.status.fpMatch = true) :
    ∃ body, m = signedMessage body := by
  rw [exec_eq_finishWith .fpVerify 0x0D s rfl] at hx
  rcases finishWith_eq_next.1 hx with ⟨s', hr, rfl⟩ | ⟨code, -, rfl⟩
  · obtain ⟨-, h8, m', hread, rfl⟩ := fpVerifyRule_eq_ok.1 hr
    rw [memRead_eq_some.2 ⟨hlen, hm⟩] at hread
    cases hread
    exact (fpMatches_iff (hlen ▸ h8)).1 hmatch
  · cases hmatch

/-! ## A fresh and a changed FINGERPRINT (46_crc32.md R162) -/

/-- What a successful FINGERPRINT with STORE leaves: its value in CRC_OUT, stored at DST_OFF inside MSGBUF. -/
theorem fingerprint_store_ok {s t : State} {m : List Byte} (hlen : m.length = s.srcLen.toNat)
    (hm : Memory.holds s.mem s.srcOff.toNat m) (hx : exec (.fingerprint true) s = .next t) (hok : t.status.errcode = .ok) :
    t.cfg = s.cfg ∧ s.dstOff.toNat + 4 ≤ s.cfg.msgbufSize ∧ t.crcOut = fingerprintValue m ∧
      Memory.afterStore t.mem s.mem true s.dstOff.toNat (bytes32 (fingerprintValue m)) := by
  obtain ⟨s', hr, rfl⟩ := rule_ok_of_errcode_ok rfl hx hok
  obtain ⟨-, hdst, m', hread, rfl⟩ := fingerprintRule_eq_ok.1 hr
  rw [memRead_eq_some.2 ⟨hlen, hm⟩] at hread
  cases hread
  exact ⟨rfl, hdst rfl, rfl, storeResult_mem true _ _⟩

/-- Settles O50: the store leaves the body and the attribute's type and length, so that FP_VERIFY reads the signed message. -/
theorem freshFingerprintVerifies : Obligations.FreshFingerprintVerifies := by
  intro s t u v body hlen hbody hx hok hdst htl hcfg hmem hsrcOff hsrcLen hv
  obtain ⟨htcfg, hin, hcrc, hstore⟩ := fingerprint_store_ok hlen hbody hx hok
  have hsigned : Memory.holds u.mem u.srcOff.toNat (signedMessage body) := by
    rw [hmem, hsrcOff, signedMessage, Memory.holds_append, Memory.holds_append]
    refine ⟨⟨hstore.holds_below (by omega) hbody, hstore.holds_below ?_ (hlen ▸ htl)⟩, ?_⟩
    · rw [hlen, hdst]
      exact Nat.le_refl _
    · rw [List.length_append, hlen, ← Nat.add_assoc]
      exact hdst ▸ hstore.holds_stored
  have hulen : (signedMessage body).length = u.srcLen.toNat := by rw [signedMessage_length, hlen, hsrcLen]
  have husrc : u.srcOff.toNat + u.srcLen.toNat ≤ u.cfg.msgbufSize := by
    rw [hcfg, htcfg, hsrcOff, hsrcLen]
    omega
  rw [exec_fpVerify_ok husrc (by omega) hulen hsigned] at hv
  cases hv
  refine ⟨rfl, (fpMatches_iff (by rw [signedMessage_length]; omega)).2 ⟨body, rfl⟩, ?_⟩
  rw [hcrc]
  exact fpRecomputed_append rfl rfl

/-- Settles O51: both messages would be signed ones, and a change of one byte is none. -/
theorem changedByteFailsVerification : Obligations.ChangedByteFailsVerification := by
  intro s u v w m i e hlen hm hv hmatch hi he hsrcOff hsrcLen hchanged hw
  obtain ⟨body, rfl⟩ := signedMessage_of_fpMatch hlen hm hv hmatch
  rw [← Bool.not_eq_true]
  intro hw1
  obtain ⟨body', hset⟩ := signedMessage_of_fpMatch (by rw [List.length_set, hlen, hsrcLen]) hchanged hw hw1
  have hsame : byteAt (signedMessage body) i ^^^ e = byteAt (signedMessage body) i ^^^ 0 :=
    (eq_byteAt_of_set_signedMessage hi hset).trans BitVec.xor_zero.symm
  exact he ((BitVec.xor_right_inj _).1 hsame)

end Sys2Proof.Machine
end

section
/-! SUPPORT. The obligations on errors and stops (O5, O9, O27, O28): what a completion records and what a failure leaves, and that a step
either answers a next state or is the meaning of one instruction, so that it stops only where that instruction reads an undefined byte. -/

namespace Sys2Proof.Machine

/-! ## Illegal command words (30_encoding.md R91, 60_exceptions.md R166) -/

/-- What the decoder accepts is one of the 26 words. -/
theorem decode_error_of_not_mem_legalWords {c : Word} (h : c ∉ legalWords) : ∃ e, decode (.cmd c) = .error e := by
  cases hd : decode (.cmd c) with
  | ok i => exact absurd (mem_legalWords_of_encode (encode_of_decodeCmd hd)) h
  | error e => exact ⟨e, rfl⟩

theorem runWord_of_decode_error {c : Word} {e : DecodeError} (h : decode (.cmd c) = .error e) (s : State) :
    runWord (.cmd c) s = .next (completeIllegal c s) := by
  simp only [runWord, h]

/-- Settles O5: an illegal word does not decode, and its completion is a failure with no effect of its own. -/
theorem illegalCommandOnlyReports : Obligations.IllegalCommandOnlyReports := by
  intro s hb hn hillegal
  obtain ⟨e, he⟩ := decode_error_of_not_mem_legalWords hillegal
  have hfailed : completeIllegal s.eng.cmd (takeMove s) = (takeMove s).failed (cmdOpcode s.eng.cmd) .illegalCmd :=
    complete_failed _ _ (by decide)
  rw [step_of_engineNext hn, engineStep_of_busy (s := takeMove s) hb, takeMove_eng, runWord_of_decode_error he, hfailed]
  rfl

/-! ## What stops a step (20_memory.md R65, R73; 60_exceptions.md R173) -/

/-- A command has an opcode, and the two bus accesses have none (30_encoding.md R90). -/
theorem opcode_or_bus (i : Instr) : (∃ op, i.opcode = some op) ∨ (∃ a d, i = .busWrite a d) ∨ ∃ a, i = .busRead a := by
  cases i with
  | busWrite a d => exact .inr (.inl ⟨a, d, rfl⟩)
  | busRead a => exact .inr (.inr ⟨a, rfl⟩)
  | _ => exact .inl ⟨_, rfl⟩

/-- A bus write always answers: it reads no byte of MSGBUF. -/
theorem exec_busWrite_next (a : BusAddr) (d : Word) (s : State) : ∃ t, exec (.busWrite a d) s = .next t := by
  simp only [exec, execBusWrite]
  split
  · exact ⟨_, rfl⟩
  · split <;> exact ⟨_, rfl⟩

theorem exec_ne_refused (i : Instr) (s : State) (r : Refusal) : exec i s ≠ .refused r := by
  rcases opcode_or_bus i with ⟨op, hop⟩ | ⟨a, d, rfl⟩ | ⟨a, rfl⟩
  · rw [exec_eq_finishWith i op s hop]
    exact finishWith_ne_refused _ _ _ _ r
  · obtain ⟨t, ht⟩ := exec_busWrite_next a d s
    simp [ht]
  · cases ha : busAnswer s a with
    | none => simp [exec_busRead_of_none ha]
    | some x => simp [exec_busRead_of_some ha]

/-- A bus read has no answer only at a MSGBUF word with an undefined byte, and the whole word lies inside MSGBUF since the size is a
multiple of 4 (00_scope.md R6). -/
theorem busAnswer_eq_none {s : State} {a : BusAddr} (hcfg : s.cfg.wf) (h : busAnswer s a = none) :
    ∃ r ∈ Instr.reads (.busRead a) s, r.off + r.len ≤ s.cfg.msgbufSize ∧ memRead s r = none := by
  cases ht : busTarget s a with
  | msgWord i =>
    obtain ⟨-, hlt⟩ := busTarget_eq_msgWord ht
    obtain ⟨hmul, -, -⟩ := hcfg
    rw [busAnswer_msgWord ht, Option.map_eq_none_iff] at h
    exact ⟨⟨4 * i, 4⟩, by simp [Instr.reads, busReads, ht], by simp only; omega, h⟩
  | reg _ | misaligned | unmapped => simp [busAnswer, ht] at h

/-- An instruction faults only at a range inside MSGBUF that R65 lets it read. -/
theorem exec_eq_fault {i : Instr} {s : State} {f : Fault} (hcfg : s.cfg.wf) (hx : exec i s = .fault f) :
    ∃ r ∈ i.reads s, r.off + r.len ≤ s.cfg.msgbufSize ∧ memRead s r = none := by
  rcases opcode_or_bus i with ⟨op, hop⟩ | ⟨a, d, rfl⟩ | ⟨a, rfl⟩
  · rw [exec_eq_finishWith i op s hop, finishWith_eq_fault] at hx
    exact rule_eq_fault hx
  · obtain ⟨t, ht⟩ := exec_busWrite_next a d s
    rw [ht] at hx
    cases hx
  · cases ha : busAnswer s a with
    | none => exact busAnswer_eq_none hcfg ha
    | some x =>
      rw [exec_busRead_of_some ha] at hx
      cases hx

/-- The engine's move answers by itself, or it is the meaning of the accepted command. -/
theorem engineMove_next_or_exec {s : State} (hn : s.engineNext) :
    (∃ t, step s = .next t) ∨ ∃ i, s.runsNext i ∧ step s = exec i (takeMove s) := by
  cases he : s.eng.state with
  | idle => exact .inl ⟨_, step_of_engineNext_idle hn he⟩
  | busy =>
    have hstep : step s = runWord (.cmd s.eng.cmd) (takeMove s) := by
      rw [step_of_engineNext hn, engineStep_of_busy (s := takeMove s) he, takeMove_eng]
    cases hd : decode (.cmd s.eng.cmd) with
    | ok i => exact .inr ⟨i, .inl ⟨he, hn, hd⟩, by rw [hstep, runWord_of_decode hd]⟩
    | error e => exact .inl ⟨_, by rw [hstep, runWord_of_decode_error hd]⟩

/-- Whatever stops a step stops the instruction that it runs: every other move answers a next state. -/
theorem step_next_or_exec (s : State) : (∃ t, step s = .next t) ∨ ∃ i, s.runsNext i ∧ step s = exec i (takeMove s) := by
  rcases hp : s.host.pending with _ | ⟨_ | _ | _, rest⟩
  case nil => exact engineMove_next_or_exec (.inl hp)
  case cons.engineTurn => exact engineMove_next_or_exec (.inr ⟨rest, hp⟩)
  case cons.powerOn => exact .inl ⟨powerOnInput (takeMove s), by simp [step, nextMove, hp, runMove]⟩
  case cons.access size w =>
    by_cases h32 : size = 32
    · subst h32
      exact .inr ⟨decodeBus w, .inr ⟨w, ⟨rest, hp⟩, rfl⟩, by rw [step_of_access hp, hostAccess, if_pos rfl, runWord_bus]⟩
    · exact .inl ⟨_, by rw [step_of_access hp, hostAccess, if_neg h32]⟩

/-- No instruction reads the list of pending moves. -/
theorem reads_takeMove (i : Instr) (s : State) : i.reads (takeMove s) = i.reads s := rfl

/-- Settles O9: what stops a step is the instruction it runs (`step_next_or_exec`), which is never refused (`exec_ne_refused`) and faults
only at an undefined byte of a range it reads (`exec_eq_fault`). -/
theorem onlyUndefinedBytesStopTheMachine : Obligations.OnlyUndefinedBytesStopTheMachine := by
  refine ⟨fun s r hs => ?_, fun s f hcfg hs => ?_⟩
  · rcases step_next_or_exec s with ⟨t, ht⟩ | ⟨i, -, hx⟩
    · rw [ht] at hs
      cases hs
    · exact exec_ne_refused i _ r (hx.symm.trans hs)
  · rcases step_next_or_exec s with ⟨t, ht⟩ | ⟨i, hi, hx⟩
    · rw [ht] at hs
      cases hs
    · obtain ⟨r, hr, hin, hread⟩ := exec_eq_fault (s := takeMove s) hcfg (hx.symm.trans hs)
      obtain ⟨k, hk, hundefined⟩ := memRead_eq_none.1 hread
      rw [takeMove_cfg] at hin
      rw [reads_takeMove] at hr
      exact ⟨by cases f; rfl, i, r, r.off + k, hi, hr, by omega, by omega, by omega, hundefined⟩

/-! ## Completions (60_exceptions.md R164, R165) -/

/-- Settles O27: the common completion fields over a state that keeps what no EXEC rule writes (`exec_command_keepsControl`). -/
theorem completionRecordsOutcome : Obligations.CompletionRecordsOutcome := by
  intro i op s t hop hx
  obtain ⟨code, u, rfl, hu⟩ := exec_command_keepsControl hop hx
  refine ⟨rfl, rfl, ?_, hu.ovr, ?_, hu.irqEn, hu.cfg, hu.host, hu.srcOff, hu.srcLen, hu.dstOff, hu.keyOff, hu.keyLen, hu.hdrOff⟩
  · rw [complete_status, hu.err]
  · rw [complete_eng, hu.eng]

/-- Settles O28: a code other than OK comes from a rule that answered an error, whose one status effect is that of `onFail_eq`. -/
theorem errorsArePrecise : Obligations.ErrorsArePrecise := by
  intro i op s t hop hx hcode
  rw [exec_eq_finishWith i op s hop] at hx
  rcases finishWith_eq_next.1 hx with ⟨u, -, rfl⟩ | ⟨code, -, rfl⟩
  · exact absurd rfl hcode
  · rw [complete_status] at hcode ⊢
    rw [complete_failed op _ hcode, onFail_eq]

end Sys2Proof.Machine
end

section
/-! SUPPORT. The obligations on resets and on the streams (O11, O13, O45): the values after a reset, and which move changes a streaming
context. -/

namespace Sys2Proof.Machine

/-! ## Power-on reset (70_reset_and_hazards.md R182, R183) -/

/-- Settles O11, by the invariant that `State.powerOnReset_invFor` gives every legal parameter. -/
theorem resetMeetsInvariant : Obligations.ResetMeetsInvariant :=
  ⟨(State.powerOnReset_invFor (by decide)).toInv, fun _ hcfg => (State.powerOnReset_invFor hcfg).toInv⟩

/-- STATUS does not depend on the parameter, so that the default size shows it. -/
theorem statusWord_powerOnReset (cfg : Config) : statusWord (State.powerOnReset cfg) = 0 :=
  calc statusWord (State.powerOnReset cfg) = statusWord State.reset := rfl
    _ = 0 := by decide

/-- Every register reads 0 after power-on reset but the two that hold no state, ID and CAPS. -/
theorem readReg_powerOnReset (cfg : Config) (r : Reg) : readReg (State.powerOnReset cfg) r =
    if r = .id then idValue else if r = .caps then BitVec.ofNat 32 (cfg.msgbufSize / 4) ||| capsUnits else 0 := by
  cases r with
  | ctrl => exact ctrlWord_eq _
  | status => exact statusWord_powerOnReset cfg
  | _ => rfl

theorem step_of_powerOn {s : State} {rest : List Move} (hp : s.host.pending = .powerOn :: rest) :
    step s = .next (powerOnInput (takeMove s)) := by
  simp [step, nextMove, hp, runMove]

/-- Settles O13: the registers by `readReg_powerOnReset`, the rest by the definition of the reset state, and the input by
`step_of_powerOn`. -/
theorem powerOnResetValues : Obligations.PowerOnResetValues := by
  refine ⟨fun cfg => ⟨fun row _ => readReg_powerOnReset cfg row.reg, ?_, fun _ => rfl, rfl, rfl, rfl, rfl⟩, fun s rest hp => ?_⟩
  · rw [State.reset, readReg_powerOnReset]
    decide
  · rw [step_of_powerOn hp, powerOnInput, takeMove, hp]
    rfl

/-! ## The streaming contexts over a step (70_reset_and_hazards.md R193) -/

/-- `t` holds both contexts as `s` does. -/
structure KeepsContexts (s t : State) : Prop where
  ctx1 : t.ctx1 = s.ctx1
  ctx2 : t.ctx2 = s.ctx2

/-- Of the register writes only that of CTRL can touch a context. -/
theorem writeReg_keepsContexts (s : State) {r : Reg} (d : Word) (hr : r ≠ .ctrl) : KeepsContexts s (writeReg s r d) := by
  cases r
  case ctrl => exact absurd rfl hr
  all_goals exact ⟨rfl, rfl⟩

/-- A bus access is a soft reset or keeps both contexts: they are not memory-mapped (10_state.md R45, R46). -/
theorem exec_decodeBus_keepsContexts {w : BusTxn} {s t : State} (hx : exec (decodeBus w) s = .next t) :
    (∃ d, decodeBus w = .busWrite 0x00008 d ∧ d.getLsbD 1 = true) ∨ KeepsContexts s t := by
  rcases decodeBus_eq w with ⟨a, d, hw⟩ | ⟨a, hw⟩ <;> rw [hw] at hx
  · rcases busWrite_eq_next hx with rfl | ⟨-, -, rfl⟩ | ⟨i, -, -, rfl⟩ | ⟨row, hrow, -, rfl⟩
    · exact .inr ⟨rfl, rfl⟩
    · exact .inr ⟨rfl, rfl⟩
    · exact .inr ⟨rfl, rfl⟩
    · obtain ⟨hmem, rfl⟩ := busTarget_eq_reg hrow
      by_cases hctrl : row.reg = .ctrl
      · rw [offset_of_reg_ctrl hmem hctrl] at hw
        by_cases hd : d.getLsbD 1 = true
        · exact .inl ⟨d, hw, hd⟩
        · rw [hctrl, writeReg, ctrlWrite_of_not_reset s (by simpa using hd)]
          exact .inr ⟨rfl, rfl⟩
      · have hkept := writeReg_keepsContexts s d hctrl
        exact .inr ⟨hkept.ctx1, hkept.ctx2⟩
  · obtain ⟨r, rfl⟩ := busRead_eq_next hx
    exact .inr ⟨rfl, rfl⟩

/-- The contexts over a step: a power-on reset, a soft reset, the completion of a command within its frame, or no change. -/
theorem step_contexts {s t : State} (hs : step s = .next t) :
    (∃ rest, s.host.pending = .powerOn :: rest) ∨
    (∃ rest w d, s.host.pending = .access 32 w :: rest ∧ decodeBus w = .busWrite 0x00008 d ∧ d.getLsbD 1 = true) ∨
    (∃ i, s.eng.state = .busy ∧ s.engineNext ∧ decode (.cmd s.eng.cmd) = .ok i ∧ WritesOnly i (takeMove s) t) ∨
    KeepsContexts s t := by
  rcases step_eq_next hs with ⟨-, -, rfl⟩ | ⟨hn, hb, i, hi, hx⟩ | ⟨-, -, -, rfl⟩ | ⟨size, w, rest, -, -, rfl⟩ |
    ⟨w, rest, hp, hx⟩ | ⟨rest, hp, -⟩
  · exact .inr (.inr (.inr ⟨rfl, rfl⟩))
  · exact .inr (.inr (.inl ⟨i, hb, hn, hi, exec_command_writesOnly (opcode_of_decode hi) hx⟩))
  · exact .inr (.inr (.inr ⟨rfl, rfl⟩))
  · exact .inr (.inr (.inr ⟨rfl, rfl⟩))
  · rcases exec_decodeBus_keepsContexts hx with ⟨d, hw, hd⟩ | hkept
    · exact .inr (.inl ⟨rest, w, d, hp, hw, hd⟩)
    · exact .inr (.inr (.inr ⟨hkept.ctx1, hkept.ctx2⟩))
  · exact .inl ⟨rest, hp⟩

/-- Settles O45: each case of `step_contexts`, a command's by its frame. -/
theorem streamsPersist : Obligations.StreamsPersist := by
  intro s t hs
  rcases step_contexts hs with hpower | hsoft | ⟨i, hb, hn, hi, hframe⟩ | hkept
  · exact ⟨fun _ => .inr (.inl hpower), fun _ => .inr (.inl hpower)⟩
  · exact ⟨fun _ => .inr (.inr hsoft), fun _ => .inr (.inr hsoft)⟩
  · exact ⟨fun hne => .inl ⟨i, hb, hn, hi, hframe.ctx1 hne⟩, fun hne => .inl ⟨i, hb, hn, hi, hframe.ctx2 hne⟩⟩
  · exact ⟨fun hne => absurd hkept.ctx1 hne, fun hne => absurd hkept.ctx2 hne⟩

end Sys2Proof.Machine
end
